-- ==== Sys2Proof/Word.lean ====
section
/-! DEFINITION. The datapath word of rule R7 (W = 64 unsigned bits in every register and every
intermediate value) and the narrower pieces rule R11 names. -/

namespace Sys2Proof

/-- The datapath width is W = 64 unsigned bits (R7). -/
abbrev Word := BitVec 64

/-- An 8-bit byte (R11). -/
abbrev Byte := BitVec 8

/-- A 4-bit nibble, and the width of a command's OP field (R11, R91). -/
abbrev Nibble := BitVec 4

end Sys2Proof
end

