-- ==== Sys2Proof/Machine/Bits.lean ====
section
/-! DEFINITION. The byte, nibble and bus-lane views of a 64-bit value (R11, R63). -/

namespace Sys2Proof.Machine

/-- `byteOf(v, k) = (v >> (8*k)) & 0xFF`; byte 0 is the least significant (R11). -/
def byteOf (v : Word) (k : Nat) : Byte := (v >>> (8 * k)).setWidth 8

/-- `nibHi(b) = (b >> 4) & 0xF` (R11). -/
def nibHi (b : Byte) : Nibble := (b >>> 4).setWidth 4

/-- `nibLo(b) = b & 0xF` (R11). -/
def nibLo (b : Byte) : Nibble := b.setWidth 4

/-- The eight lanes of a bus data word, lane 0 first: lane k carries `byteOf(value, k)` (R63). -/
def busLanes (v : Word) : List Byte := (List.range 8).map (byteOf v)

/-- The value that a run of byte lanes carries, lane 0 the least significant (R63). -/
def ofLanes : List Byte → Word
  | [] => 0
  | b :: rest => b.setWidth 64 ||| (ofLanes rest <<< 8)

end Sys2Proof.Machine
end

