-- ==== Sys2Proof/Syntax.lean ====
section
/-! DEFINITION. The commands of the block: one constructor for each row of spec/opcode_table.json.
A command has no register, immediate or mode fields; its operands are implicit registers (R92). -/

namespace Sys2Proof

/-- The six legal commands (R93). -/
inductive Instr where
  /-- NOP, OP 0x0 (R189). -/
  | nop
  /-- DESCR, OP 0x1: UNSCR from NUM (R123). -/
  | descr
  /-- EXTR, OP 0x2: FIELDS from UNSCR (R145). -/
  | extr
  /-- DECODE, OP 0x3: UNSCR and FIELDS from NUM (R146). -/
  | decode
  /-- CRC, OP 0x4: CRC_OK from UNSCR (R171). -/
  | crc
  /-- VALIDATE, OP 0x5: the gates of the validator (R190). -/
  | validate
  deriving DecidableEq, Repr

end Sys2Proof
end

