-- ==== Sys2Proof/WellFormed.lean ====
section
/-! DEFINITION. Which command words are legal (R94). A command itself has no field that could be ill
formed, so the checks are on its 64-bit word. -/

namespace Sys2Proof

/-- First check of R94: RSVD, bits 63:4, is 0. -/
def reservedIsZero (w : Word) : Bool := w >>> 4 == 0

/-- Second check of R94: OP, bits 3:0, is at most 5. -/
def opcodeIsAssigned (w : Word) : Bool := decide ((w.setWidth 4).toNat ≤ 5)

/-- A command word is legal iff `w[63:4] == 0` and `w[3:0] <= 5` (R94). -/
def legal (w : Word) : Bool := reservedIsZero w && opcodeIsAssigned w

/-- Every command is well formed: a constructor of Instr has no operand (R92). -/
def Instr.wf : Instr → Bool
  | .nop => true
  | .descr => true
  | .extr => true
  | .decode => true
  | .crc => true
  | .validate => true

end Sys2Proof
end

