-- ==== Sys2Proof/Decode.lean ====
section
/-! DEFINITION. Decoding of command words (R90 to R95) and their encoding (R96). -/

namespace Sys2Proof

/-- Why a word is no command (R94): both kinds raise the one error ILLEGAL_CMD. -/
inductive Illegal where
  /-- RSVD, bits 63:4, is not 0. -/
  | reservedField
  /-- RSVD is 0 and OP is one of the reserved opcodes 6..15. -/
  | reservedOpcode
  /-- A run of bus lanes is not the eight bytes of one 64-bit word (R90: one length, one format). -/
  | notOneWord
  deriving DecidableEq, Repr

/-- The opcode map (R93), with the reserved opcodes 6..15 rejected (R95). -/
def decodeOpcode (op : Nibble) : Except Illegal Instr :=
  match op.toNat with
  | 0 => .ok .nop
  | 1 => .ok .descr
  | 2 => .ok .extr
  | 3 => .ok .decode
  | 4 => .ok .crc
  | 5 => .ok .validate
  | _ => .error .reservedOpcode

/-- The decoder: total on the 2^64 words (R94). -/
def decode (w : Word) : Except Illegal Instr :=
  if reservedIsZero w then decodeOpcode (w.setWidth 4) else .error .reservedField

/-- The decoder on the byte lanes of a bus data word, lane 0 first (R63, R90). -/
def decodeLanes (lanes : List Byte) : Except Illegal Instr :=
  if lanes.length = 8 then decode (Machine.ofLanes lanes) else .error .notOneWord

/-- OP(m), the opcode of a command (R93). -/
def opcode : Instr → Nibble
  | .nop => 0x0
  | .descr => 0x1
  | .extr => 0x2
  | .decode => 0x3
  | .crc => 0x4
  | .validate => 0x5

/-- The encoding of a command: the 64-bit word `zext_64(OP(m))` (R96). -/
def encode (i : Instr) : Word := (opcode i).setWidth 64

/-- The command word that the low `nbits` bits of `w` give, every bit above them 0. -/
def tableWord (nbits w : Nat) : Word := BitVec.ofNat 64 (w % 2 ^ nbits)

/-- What the decoder reads from an opcode-table word, laid out on the eight bus lanes. -/
def decodeTableWord (nbits w : Nat) : Option Instr :=
  match decodeLanes (Machine.busLanes (tableWord nbits w)) with
  | .ok i => some i
  | .error _ => none

end Sys2Proof
end

