-- ==== Sys2Proof/Config.lean ====
section
/-! DEFINITION. What the platform fixes and what the spec leaves without a value. Nothing here has a
body, so no proof can see a value. -/

namespace Sys2Proof

/-- BASE, the bus address of window offset 0: an OPEN platform parameter (R8, R60, D3, X21).
DESIGN CHOICE, safe: a constant without a body, so every claim holds for every BASE (log entry 2). -/
opaque Config.base : Nat

/-- FREE VALUE: the TEMP a reduction iteration would leave for an index outside 0..42, where rule R161
does not define it. R169 says that no run asks for it. DESIGN CHOICE, safe (log entry 8). -/
opaque Config.redStepUndefined : Word → Nat → Word

end Sys2Proof
end

