-- ==== Sys2Proof/Machine/State.lean ====
section
/-! DEFINITION. The state of the block (the record of R39), the inputs that reach it from outside, and
the state after reset (R40). -/

namespace Sys2Proof.Machine

/-- The eight sequencer states (R29, R180). The encodings 8..15 do not occur (D35, X19; log entry 13). -/
inductive SeqState where
  | idle | gate | dsc | ext | load | red | chk | bl
  deriving DecidableEq, Repr

/-- The error codes ERRC takes (R221). The codes 3..15 are never produced (X18; log entry 13). -/
inductive ErrCode where
  | noError | illegalCmd | busyWrite
  deriving DecidableEq, Repr

/-- The complete state of one NWC24-DV instance (R39): "Nothing else is state". -/
structure Block where
  /-- OPR, the opcode of the last accepted command (R21). -/
  opr : BitVec 4
  /-- STATE, the sequencer state (R29). -/
  state : SeqState
  /-- ITER, the reduction iteration counter (R28). -/
  iter : BitVec 6
  /-- DONE: a command has completed since DONE was last cleared (R25). -/
  done : Bool
  /-- ERR: an error has been recorded since ERR was last cleared (R26). -/
  err : Bool
  /-- ERRC, the code of the first error since ERR was last cleared (R26). -/
  errc : ErrCode
  /-- LEN_OK: the length gate passed (R27). -/
  lenOk : Bool
  /-- CRC_OK: the last checksum check passed (R27). -/
  crcOk : Bool
  /-- BLACK: the entity id equalled SENTINEL (R27). -/
  black : Bool
  /-- VALID: the last VALIDATE passed every gate (R27). -/
  valid : Bool
  /-- IE, CFG bit 0, the interrupt enable (R31). -/
  ie : Bool
  /-- NUM, the scrambled number (R33). -/
  num : Word
  /-- DIGITS, the digit count the host supplies (R34). -/
  digits : Word
  /-- UNSCR, the unscrambled value, not masked to 53 bits (R35). -/
  unscr : Word
  /-- TEMP, the working register of the reducer (R36). -/
  temp : Word
  /-- FIELDS, the four packed fields (R37). -/
  fields : Word
  deriving DecidableEq, Repr

/-- Every field of the record is 0 after reset: OPR = NOP, STATE = IDLE (R40). -/
def Block.reset : Block where
  opr := 0
  state := .idle
  iter := 0
  done := false
  err := false
  errc := .noError
  lenOk := false
  crcOk := false
  black := false
  valid := false
  ie := false
  num := 0
  digits := 0
  unscr := 0
  temp := 0
  fields := 0

/-- Where a host access is aimed: at an offset of the register window, as MemRead and MemWrite name it
(R13), or at a bus address, which the platform decodes against BASE (R60). -/
inductive Place where
  | offset (off : Nat)
  | address (addr : Nat)
  deriving DecidableEq, Repr

/-- A host access (R13, R62): the place, the size in bytes and, for a write, the data word. -/
inductive Access where
  | read (place : Place) (size : Nat)
  | write (place : Place) (size : Nat) (data : Word)
  deriving DecidableEq, Repr

/-- One slot of the block's time, an input: whether `rst` is asserted, the host access presented if
any, and whether the sequencer has a clock edge to step on. A slot with only an access or only a
sequencer edge is one event of R68; one with both is their coincidence in one clock (R68, R230); one
with none of the three is a stopped clock (R237). Log entry 1. -/
structure Tick where
  rst : Bool
  access : Option Access
  seq : Bool
  deriving DecidableEq, Repr

/-- What the block answers on the bus to a host access that reaches it (R62, R64, R223; log entry 3). -/
inductive Response where
  /-- The data of a read. -/
  | data (v : Word)
  /-- A write has been taken (also where its register ignores it, R67). -/
  | done
  /-- `raise BusError(off, n)`; a read carries the data 0, a write no data (R62, R223). -/
  | busError (off size : Nat) (readData : Option Word)
  deriving DecidableEq, Repr

/-- The machine: the block's state record, and the model's own two fields for the world outside it. -/
structure State where
  /-- The state of the block (R39). -/
  block : Block
  /-- MODEL'S OWN: the clock slots still to come, oldest first (log entry 1). -/
  inputs : List Tick
  /-- MODEL'S OWN: what the last slot's access was answered, if one reached the block (log entry 3). -/
  response : Option Response
  deriving DecidableEq, Repr

/-- The machine right after reset (R40, R250): every block field 0, no input waiting, nothing answered
(DESIGN CHOICE for the last two, log entries 1 and 3). -/
def State.reset : State where
  block := Block.reset
  inputs := []
  response := none

/-- The machine with another block record, the outside world as it was. -/
def State.setBlock (s : State) (b : Block) : State := { s with block := b }

/-- The machine with another answer on the bus. -/
def State.setResponse (s : State) (r : Option Response) : State := { s with response := r }

/-- The machine with other inputs still to come. -/
def State.setInputs (s : State) (ts : List Tick) : State := { s with inputs := ts }

/-- Reasons the machine stops. There is none: "The block never traps, halts or resets itself", and no
sequencer step can raise an error (R220). A BusError is a bus response, not a stop (R223). -/
inductive Fault where
  deriving DecidableEq, Repr

/-- Reasons the model gives no meaning. -/
inductive Refusal where
  /-- Raised by an arm of exec for an instruction without a meaning yet; no arm does so now. Safe. -/
  | notModelled (mnemonic : String)
  deriving DecidableEq, Repr

end Sys2Proof.Machine
end

