-- ==== Sys2Proof/Machine/Operands.lean ====
section
/-! DEFINITION. How an access names a register: the platform's decode against BASE (R60), the check of
size, alignment and range (R62), and the register map (R20). A command's own operands are implicit
registers (R92), read and written as fields of the block record. -/

namespace Sys2Proof.Machine

/-- The eight host-visible registers (R20). -/
inductive Reg where
  | ctrl | status | cfg | num | digits | unscr | temp | fields
  deriving DecidableEq, Repr

/-- The size of the register window in bytes (R8, R60). -/
def windowSize : Nat := 0x40

/-- The size of the one access the block performs, in bytes (R8, R62). -/
def accessSize : Nat := 8

/-- The offset of a register in the window (R20). -/
def regOffset : Reg → Nat
  | .ctrl => 0x00
  | .status => 0x08
  | .cfg => 0x10
  | .num => 0x18
  | .digits => 0x20
  | .unscr => 0x28
  | .temp => 0x30
  | .fields => 0x38

/-- The register at an 8-byte slot of the window (R20, R60). -/
def regOfSlot : Nat → Option Reg
  | 0 => some .ctrl
  | 1 => some .status
  | 2 => some .cfg
  | 3 => some .num
  | 4 => some .digits
  | 5 => some .unscr
  | 6 => some .temp
  | 7 => some .fields
  | _ => none

/-- The register an access of `size` bytes at `off` reaches: the access is performed only if
`n == 8` and `off mod 8 == 0` and `0 <= off < 0x40` (R62). -/
def accessReg (off size : Nat) : Option Reg :=
  if size = accessSize ∧ off % 8 = 0 ∧ off < windowSize then regOfSlot (off / 8) else none

/-- The window offset an access presents to the block. A bus address outside the window is decoded by
the platform and never reaches the block (R60). -/
def placeOffset : Place → Option Nat
  | .offset off => some off
  | .address addr =>
    if Config.base ≤ addr ∧ addr < Config.base + windowSize then some (addr - Config.base) else none

/-- Where an access is aimed. -/
def accessPlace : Access → Place
  | .read p _ => p
  | .write p _ _ => p

/-- The BusError answer to an access that is not performed: a read gets the data 0 (R62, R223). -/
def busErrorResponse (off : Nat) : Access → Response
  | .read _ n => .busError off n (some 0)
  | .write _ n _ => .busError off n none

/-- The size of an access in bytes. -/
def accessBytes : Access → Nat
  | .read _ n => n
  | .write _ n _ => n

/-- The answer to an access made while `rst` is asserted: no BusError, and a read returns 0
(R74; log entry 9). -/
def resetResponse : Access → Response
  | .read _ _ => .data 0
  | .write _ _ _ => .done

end Sys2Proof.Machine
end

