-- ==== Sys2Proof/Machine/Flags.lean ====
section
/-! DEFINITION. The flags: BUSY and `irq` as functions of the record (R24, R228), the encodings of
STATE and ERRC (R29, R221), the STATUS word (R23, R64) and the flags cleared at acceptance (R185). -/

namespace Sys2Proof.Machine

/-- BUSY reads as 1 exactly when `STATE != IDLE` (R24). -/
def busy (b : Block) : Bool := b.state != .idle

/-- `irq = IE & (DONE | ERR)` (R228). -/
def irq (b : Block) : Bool := b.ie && (b.done || b.err)

/-- The encoding of STATE (R29). -/
def stateCode : SeqState → BitVec 4
  | .idle => 0
  | .gate => 1
  | .dsc => 2
  | .ext => 3
  | .load => 4
  | .red => 5
  | .chk => 6
  | .bl => 7

/-- The encoding of ERRC (R221). -/
def errCodeBits : ErrCode → BitVec 4
  | .noError => 0
  | .illegalCmd => 1
  | .busyWrite => 2

/-- A one-bit flag as a 64-bit value. -/
def flagBit (f : Bool) : Word := (BitVec.ofBool f).setWidth 64

/-- The value a host reads from STATUS (R64). -/
def statusWord (b : Block) : Word :=
  (stateCode b.state).setWidth 64 <<< 24 ||| b.iter.setWidth 64 <<< 16
    ||| flagBit b.valid <<< 11 ||| flagBit b.black <<< 10 ||| flagBit b.crcOk <<< 9
    ||| flagBit b.lenOk <<< 8 ||| (errCodeBits b.errc).setWidth 64 <<< 4
    ||| flagBit b.err <<< 2 ||| flagBit b.done <<< 1 ||| flagBit (busy b)

/-- The result flags cleared at acceptance (R185): VALIDATE clears all four, CRC clears CRC_OK, and the
other commands none. -/
def clearResultFlags (i : Instr) (b : Block) : Block :=
  match i with
  | .validate => { b with lenOk := false, crcOk := false, black := false, valid := false }
  | .crc => { b with crcOk := false }
  | .nop => b
  | .descr => b
  | .extr => b
  | .decode => b

end Sys2Proof.Machine
end

