-- ==== Sys2Proof/Machine/Ops.lean ====
section
/-! DEFINITION. The named operations on the block: recording an error and acknowledging it (R222, R232:
the block has no other exception entry or return, R231), completion (R182), acceptance (R183), and the
host's reads and writes of the registers other than CTRL (R64, R65). -/

namespace Sys2Proof.Machine

/-- `recordErr(code)`: ERRC keeps the first error, ERR is set (R222). This is all that happens on an
error: no state is saved, no control is transferred (R231). -/
def recordErr (code : ErrCode) (b : Block) : Block :=
  { b with errc := if b.err then b.errc else code, err := true }

/-- BUSY_WRITE: a write to a protected register while STATE != IDLE (R225). -/
def busyWrite (b : Block) : Block := recordErr .busyWrite b

/-- ILLEGAL_CMD: an illegal command word written to CTRL while STATE == IDLE (R224). -/
def illegalCommand (b : Block) : Block := { recordErr .illegalCmd b with done := true }

/-- A host write of STATUS (R65): bit 1 clears DONE, bit 2 clears ERR and ERRC, other bits are ignored.
Clearing ERR is the only return from an error (R232). -/
def acknowledge (v : Word) (b : Block) : Block :=
  { b with
    done := if v.getLsbD 1 then false else b.done
    err := if v.getLsbD 2 then false else b.err
    errc := if v.getLsbD 2 then .noError else b.errc }

/-- `finish()`: `STATE <- IDLE; DONE <- 1` (R182). -/
def finish (b : Block) : Block := { b with state := .idle, done := true }

/-- Acceptance of a command other than NOP (R183): OPR takes its opcode, DONE and the flags of R185 are
cleared, and STATE takes its first state. -/
def accept (i : Instr) (first : SeqState) (b : Block) : Block :=
  { clearResultFlags i b with opr := opcode i, done := false, state := first }

/-- Acceptance of NOP (R189): `OPR <- 0; DONE <- 1`, no sequencer step. -/
def acceptNop (b : Block) : Block := { b with opr := opcode .nop, done := true }

/-- A write to a protected register (R66): dropped with BUSY_WRITE while BUSY = 1, else `write`. -/
def protect (write : Block → Block) (b : Block) : Block :=
  if busy b then busyWrite b else write b

/-- `CtrlWrite` of a legal word (R183): BUSY_WRITE while a command runs, else acceptance. -/
def issue (acceptance : Block → Block) (s : State) : Host.Outcome State Fault Refusal :=
  .next (s.setBlock (protect acceptance s.block))

/-- `MemRead(off, 8)` at a register (R64); no side effect. -/
def readReg (r : Reg) (b : Block) : Word :=
  match r with
  | .ctrl => b.opr.setWidth 64
  | .status => statusWord b
  | .cfg => flagBit b.ie
  | .num => b.num
  | .digits => b.digits
  | .unscr => b.unscr
  | .temp => b.temp
  | .fields => b.fields

/-- A host write of CFG: `IE <- wdata[0]`, other bits ignored (R65). -/
def writeCfg (v : Word) (b : Block) : Block := { b with ie := v.getLsbD 0 }

/-- `NUM <- wdata`, protected (R65, R66). -/
def writeNum (v : Word) (b : Block) : Block := protect (fun b => { b with num := v }) b

/-- `DIGITS <- wdata`, protected (R65, R66). -/
def writeDigits (v : Word) (b : Block) : Block := protect (fun b => { b with digits := v }) b

/-- `UNSCR <- wdata`, protected (R65, R66). -/
def writeUnscr (v : Word) (b : Block) : Block := protect (fun b => { b with unscr := v }) b

end Sys2Proof.Machine
end

