-- ==== Sys2Proof/Machine/Checksum.lean ====
section
/-! DEFINITION. The checksum validator CRC: the bit-serial reduction (R160, R161), the sequencer states
LOAD, RED and CHK (R168 to R170) and the command CRC (R171). -/

namespace Sys2Proof.Machine

/-- GEN_POLY (R6). -/
def genPoly : Word := 0x635

/-- CRC_ITERS, the number of reduction iterations (R6). -/
def crcIters : Nat := 43

/-- One reduction iteration (R161). It is defined for i in 0..42; outside them a free value stands,
which no run asks for (R169; DESIGN CHOICE, log entry 8). -/
def redStep (temp : Word) (i : Nat) : Word :=
  if i < crcIters then
    if temp.getLsbD (52 - i) then temp ^^^ (genPoly <<< (42 - i)) else temp
  else Config.redStepUndefined temp i

/-- `temp` after the iterations 0 to k-1 of the loop of R160. -/
def reduce (u : Word) : Nat → Word
  | 0 => u
  | k + 1 => redStep (reduce u k) k

/-- The acceptance test on the remainder: `(temp & 0xFF) == 0` (R160, R170). -/
def lowByteZero (temp : Word) : Bool := temp &&& 0xFF == 0

/-- `isChecksumValid` (R160). -/
def isChecksumValid (u : Word) : Bool := lowByteZero (reduce u crcIters)

/-- ORC state LOAD (R168). -/
def loadStep (b : Block) : Block := { b with temp := b.unscr, iter := 0, state := .red }

/-- ORC state RED, one iteration with i = ITER (R169). ITER is 6 bits wide (R28), so its increment is
modulo 64; no run reaches a value above 43 (log entry 8). -/
def redState (b : Block) : Block :=
  if b.iter = 42 then { b with temp := redStep b.temp b.iter.toNat, iter := 43, state := .chk }
  else { b with temp := redStep b.temp b.iter.toNat, iter := b.iter + 1 }

/-- ORC state CHK (R170): CRC_OK takes the test; BL follows only for a VALIDATE that passed it. -/
def chkStep (b : Block) : Block :=
  if b.opr = opcode .validate ∧ lowByteZero b.temp = true then
    { b with crcOk := lowByteZero b.temp, state := .bl }
  else finish { b with crcOk := lowByteZero b.temp }

/-- CRC (R171): acceptance with first state LOAD; it clears CRC_OK. -/
def execCrc (s : State) : Host.Outcome State Fault Refusal := issue (accept .crc .load) s

end Sys2Proof.Machine
end

