-- ==== Sys2Proof/Machine/Descrambler.lean ====
section
/-! DEFINITION. The descrambler DSC: the eight literal steps of R111 to R121, the sequencer state DSC
(R124) and the command DESCR (R123). -/

namespace Sys2Proof.Machine

/-- The 53-bit mask `0x1FFFFFFFFFFFFF` (R6). -/
def idMask : Word := 0x1FFFFFFFFFFFFF

/-- The byte permutation P, entries 0..5; entries 6 and 7 are never read (R6, R116, D24). -/
def permTable : List Nat := [1, 5, 0, 4, 2, 3]

/-- The nibble substitution S (R6). -/
def substTable : List Nibble :=
  [0xD, 0x5, 0x9, 0x7, 0x0, 0xF, 0xA, 0x2, 0xC, 0x3, 0xE, 0x1, 0x8, 0x6, 0xB, 0x4]

/-- `P[i]`. -/
def perm (i : Nat) : Nat := permTable.getD i 0

/-- `S[n]`, one 4-bit lookup (R117). -/
def subst (n : Nibble) : Nibble := substTable.getD n.toNat 0

/-- Step 1, input mask (R111). -/
def maskInput (x : Word) : Word := x &&& idMask

/-- Step 2, XOR masking and re-mask (R112). -/
def xorInput (v1 : Word) : Word := (v1 ^^^ 0x5E5E5E5E5E5E) &&& idMask

/-- Step 3, bit isolation (R113). -/
def isolateBit (v2 : Word) : Word := (v2 <<< 5) &&& 0x20

/-- Step 4, re-insertion and logical shift (R114, C3). -/
def reinsertBit (v2 mix : Word) : Word := (v2 ||| (mix <<< 48)) >>> 1

/-- Bytes 0..5 given lane by lane, assembled into a fresh 48-bit integer (R116, R117). -/
def assembleLanes (lane : Nat → Byte) : Word :=
  (List.range 6).foldl (fun acc i => acc ||| ((lane i).setWidth 64 <<< (8 * i))) 0

/-- A value with its six low bytes replaced and bits 63:48 kept (R116, R117). -/
def replaceLow (v low : Word) : Word := (v &&& ~~~0x0000FFFFFFFFFFFF) ||| low

/-- Step 5, byte permutation: every source byte is read from v4 (R116). -/
def permuteBytes (v4 : Word) : Word := replaceLow v4 (assembleLanes fun i => byteOf v4 (perm i))

/-- One byte through S, high and low nibble (R117). -/
def substByte (t : Byte) : Byte :=
  ((subst (nibHi t)).setWidth 8 <<< 4) ||| (subst (nibLo t)).setWidth 8

/-- Step 6, nibble substitution of the six low bytes (R117). -/
def substituteNibbles (v5 : Word) : Word :=
  replaceLow v5 (assembleLanes fun i => substByte (byteOf v5 i))

/-- `hi32 = v6 >> 32` of step 7 (R119). -/
def reshuffleHi (v6 : Word) : Word := v6 >>> 32

/-- `a` of step 7 (R119). -/
def reshuffleA (v6 : Word) : Word := (v6 >>> 22) ||| ((reshuffleHi v6 &&& 0x7FF) <<< 10)

/-- `b` of step 7, with its literal multiply mod 2^64 (R119, D25). -/
def reshuffleB (v6 : Word) : Word := (v6 * 0x400) ||| ((reshuffleHi v6 >>> 11) &&& 0x3FF)

/-- Step 7, bit-field reshuffle across 32-bit halves (R119). -/
def reshuffle (v6 : Word) : Word := (reshuffleA v6 <<< 32) ||| reshuffleB v6

/-- Step 8, output mask; the result is not masked to 53 bits (R121, D15, C1). -/
def xorOutput (r7 : Word) : Word := r7 ^^^ 0xB3B3B3B3B3B3

/-- v2, the value after step 2. -/
def dscV2 (x : Word) : Word := xorInput (maskInput x)

/-- v4, the value after step 4. -/
def dscV4 (x : Word) : Word := reinsertBit (dscV2 x) (isolateBit (dscV2 x))

/-- v6, the value after step 6. -/
def dscV6 (x : Word) : Word := substituteNibbles (permuteBytes (dscV4 x))

/-- `descramble`, the composition of the eight steps in their order (R110). -/
def descramble (x : Word) : Word := xorOutput (reshuffle (dscV6 x))

/-- ORC state DSC (R124): `UNSCR <- descramble(NUM)`, then finish for DESCR and EXT otherwise. R124 names
DESCR, DECODE and VALIDATE; for an OPR that no run holds here, the transition summary's "otherwise"
is followed (DEDUCED, log entry 7). -/
def dscStep (b : Block) : Block :=
  if b.opr = opcode .descr then finish { b with unscr := descramble b.num }
  else { b with unscr := descramble b.num, state := .ext }

/-- DESCR (R123): acceptance with first state DSC and no result flag cleared. -/
def execDescr (s : State) : Host.Outcome State Fault Refusal := issue (accept .descr .dsc) s

end Sys2Proof.Machine
end

