-- ==== Sys2Proof/Machine/FieldExtractor.lean ====
section
/-! DEFINITION. The field extractor FEX: extract and pack (R140, R141), the sequencer state EXT (R144)
and the commands EXTR and DECODE (R145, R146). -/

namespace Sys2Proof.Machine

/-- The four decoded fields with the output types of R140. -/
structure Identity where
  entityId : BitVec 32
  generationCount : BitVec 5
  hardwareModel : BitVec 3
  areaCode : BitVec 3
  deriving DecidableEq, Repr

/-- `extract`: each field is `(u >> offset) & mask` (R140). -/
def extract (u : Word) : Identity where
  entityId := (u >>> 15).setWidth 32
  generationCount := (u >>> 10).setWidth 5
  hardwareModel := (u >>> 47).setWidth 3
  areaCode := (u >>> 50).setWidth 3

/-- `pack`: the layout of FIELDS (R141). -/
def pack (f : Identity) : Word :=
  f.entityId.setWidth 64 ||| f.generationCount.setWidth 64 <<< 32
    ||| f.hardwareModel.setWidth 64 <<< 40 ||| f.areaCode.setWidth 64 <<< 48

/-- ORC state EXT (R144): `FIELDS <- pack(extract(UNSCR))`, then LOAD for VALIDATE and finish otherwise.
R144 names EXTR and DECODE for the finish; for an OPR that no run holds here, the transition summary's
"otherwise" is followed (DEDUCED, log entry 7). -/
def extStep (b : Block) : Block :=
  if b.opr = opcode .validate then { b with fields := pack (extract b.unscr), state := .load }
  else finish { b with fields := pack (extract b.unscr) }

/-- EXTR (R145): acceptance with first state EXT and no result flag cleared. -/
def execExtr (s : State) : Host.Outcome State Fault Refusal := issue (accept .extr .ext) s

/-- DECODE (R146): acceptance with first state DSC and no result flag cleared. -/
def execDecode (s : State) : Host.Outcome State Fault Refusal := issue (accept .decode .dsc) s

end Sys2Proof.Machine
end

