-- ==== Sys2Proof/Machine/Orchestrator.lean ====
section
/-! DEFINITION. The orchestrator ORC: the length and blacklist gates (R187, R188), the sequencer step
(R180, R181) and the commands NOP and VALIDATE (R189, R190). -/

namespace Sys2Proof.Machine

/-- REQUIRED_DIGITS (R6). -/
def requiredDigits : Word := 16

/-- SENTINEL, the one blacklisted entity id (R6, D31). -/
def sentinel : BitVec 32 := 0x0403AC68

/-- `FIELDS[31:0] == SENTINEL` (R188). -/
def blacklisted (fields : Word) : Bool := fields.setWidth 32 == sentinel

/-- ORC state GATE, the length gate: all 64 bits of DIGITS against 16 (R187). -/
def gateStep (b : Block) : Block :=
  if b.digits = requiredDigits then { b with lenOk := true, state := .dsc } else finish b

/-- ORC state BL, the blacklist gate (R188). -/
def blStep (b : Block) : Block :=
  finish { b with black := blacklisted b.fields, valid := !blacklisted b.fields }

/-- One sequencer step: the action of the state in STATE (R180, R181); IDLE has none (R186). -/
def seqStep (b : Block) : Block :=
  match b.state with
  | .idle => b
  | .gate => gateStep b
  | .dsc => dscStep b
  | .ext => extStep b
  | .load => loadStep b
  | .red => redState b
  | .chk => chkStep b
  | .bl => blStep b

/-- The block after n sequencer steps with no host access and no reset between them. -/
def seqRun : Nat → Block → Block
  | 0, b => b
  | n + 1, b => seqRun n (seqStep b)

/-- NOP (R189): accepted at once, with no sequencer step. -/
def execNop (s : State) : Host.Outcome State Fault Refusal := issue acceptNop s

/-- VALIDATE (R190): acceptance with first state GATE; it clears LEN_OK, CRC_OK, BLACK and VALID. -/
def execValidate (s : State) : Host.Outcome State Fault Refusal := issue (accept .validate .gate) s

end Sys2Proof.Machine
end

