-- ==== Sys2Proof/Machine/Dispatch.lean ====
section
/-! DEFINITION. exec: the meaning of each command, that is CtrlWrite of its word (R183). -/

namespace Sys2Proof.Machine

def exec (i : Instr) (s : State) : Host.Outcome State Fault Refusal :=
  match i with
  | .nop => Sys2Proof.Machine.execNop s
  | .descr => Sys2Proof.Machine.execDescr s
  | .extr => Sys2Proof.Machine.execExtr s
  | .decode => Sys2Proof.Machine.execDecode s
  | .crc => Sys2Proof.Machine.execCrc s
  | .validate => Sys2Proof.Machine.execValidate s

end Sys2Proof.Machine
end

