-- ==== Sys2Proof/Machine/Bus.lean ====
section
/-! DEFINITION. The bus interface: CTRL writes (R183), host accesses (R62, R64, R65), and one clock slot
with its reset, access and sequencer step (R68, R181, R230, R250). -/

namespace Sys2Proof.Machine

/-- `CtrlWrite(w)` (R183): a legal word is executed; any other records BUSY_WRITE while BUSY = 1 and
ILLEGAL_CMD while BUSY = 0 (R94, R227). -/
def ctrlWrite (w : Word) (s : State) : Host.Outcome State Fault Refusal :=
  match decode w with
  | .ok i => exec i s
  | .error _ => .next (s.setBlock (protect illegalCommand s.block))

/-- `MemWrite(off, 8, v)` at a register (R65). Writes of TEMP and FIELDS are ignored (R67). -/
def writeReg (r : Reg) (v : Word) (s : State) : Host.Outcome State Fault Refusal :=
  match r with
  | .ctrl => ctrlWrite v s
  | .status => .next (s.setBlock (acknowledge v s.block))
  | .cfg => .next (s.setBlock (writeCfg v s.block))
  | .num => .next (s.setBlock (writeNum v s.block))
  | .digits => .next (s.setBlock (writeDigits v s.block))
  | .unscr => .next (s.setBlock (writeUnscr v s.block))
  | .temp => .next s
  | .fields => .next s

/-- A performed access at a register, and the block's answer (R64, R65). -/
def performAccess (r : Reg) (a : Access) (s : State) : Host.Outcome State Fault Refusal :=
  match a with
  | .read _ _ => .next (s.setResponse (some (.data (readReg r s.block))))
  | .write _ _ v => writeReg r v (s.setResponse (some .done))

/-- A host access (R62): one outside the window never reaches the block (R60), one that is not an
aligned 8-byte access in the window gets a BusError and changes no block state (R223). -/
def hostAccess (a : Access) (s : State) : Host.Outcome State Fault Refusal :=
  match placeOffset (accessPlace a) with
  | none => .next (s.setResponse none)
  | some off =>
    match accessReg off (accessBytes a) with
    | none => .next (s.setResponse (some (busErrorResponse off a)))
    | some r => performAccess r a s

/-- The access of a slot, if it has one. -/
def slotAccess (a : Option Access) (s : State) : Host.Outcome State Fault Refusal :=
  match a with
  | none => .next (s.setResponse none)
  | some a => hostAccess a s

/-- The answer to an access made during reset; one outside the window reaches nothing (R60, R74). -/
def slotResetResponse (a : Option Access) : Option Response :=
  match a with
  | none => none
  | some a => (placeOffset (accessPlace a)).map fun _ => resetResponse a

/-- The sequencer's part of a slot: a step if the slot has a sequencer edge and STATE was not IDLE when
the slot began (R181, R261; log entry 6). -/
def slotSequencer (edge : Bool) (s : State) : State :=
  if edge then s.setBlock (seqStep s.block) else s

/-- One clock slot. Reset wins (R230, R250); otherwise the host access, then the sequencer step (R68). -/
def tick (t : Tick) (s : State) : Host.Outcome State Fault Refusal :=
  if t.rst then .next ((s.setBlock Block.reset).setResponse (slotResetResponse t.access))
  else
    match slotAccess t.access s with
    | .next s' => .next (slotSequencer (t.seq && busy s.block) s')
    | .fault f => .fault f
    | .refused r => .refused r

/-- The slot the machine runs when no input is waiting: a clock edge with no host access, on which the
hardware's sequencer steps while STATE != IDLE (R181, R194). -/
def quietTick : Tick := { rst := false, access := none, seq := true }

/-- The slot that delivers a command word: `MemWrite(0x00, 8, w)` and nothing else (R90). -/
def commandTick (w : Word) : Tick :=
  { rst := false, access := some (.write (.offset (regOffset .ctrl)) accessSize w), seq := false }

/-- The next slot and the inputs that remain after it. -/
def nextInput (ts : List Tick) : Tick × List Tick :=
  match ts with
  | [] => (quietTick, [])
  | t :: rest => (t, rest)

/-- The machine with the command word of an opcode-table row as its next input. -/
def deliverTableWord (s : State) (nbits w : Nat) : State :=
  s.setInputs (commandTick (tableWord nbits w) :: s.inputs)

end Sys2Proof.Machine
end

