-- ==== Sys2Proof/Machine/Step.lean ====
section
/-! DEFINITION. One step of the machine: the oldest waiting clock slot, or a quiet clock edge where none
waits (R68, R181; log entry 1). -/

namespace Sys2Proof.Machine

/-- One step: take the next input slot and run it. -/
def step (s : State) : Host.Outcome State Fault Refusal :=
  tick (nextInput s.inputs).1 (s.setInputs (nextInput s.inputs).2)

/-- The machine with a command word as its next input: the block fetches nothing, a command comes as a
host write of CTRL (R60, R90; log entry 5). -/
def State.withFetchWord (s : State) (nbits w : Nat) : State := deliverTableWord s nbits w

end Sys2Proof.Machine
end

