-- ==== Sys2Proof/Machine/HostAsm.lean ====
section
/-! DEFINITION. The host assembly of R97 and R98: a host CPU that runs a host program against the block.
The host's registers are not block state (R97), so this is a layer over the machine, not part of it. -/

namespace Sys2Proof.Machine

/-- The host instructions (R97). A branch names the line its label stands at (log entry 14). -/
inductive HostInstr where
  /-- `st REG, imm64`. -/
  | st (r : Reg) (imm : Word)
  /-- `ld rX, REG`. -/
  | ld (rx : Fin 8) (r : Reg)
  /-- `andi rX, rY, imm`. -/
  | andi (rx ry : Fin 8) (imm : Word)
  /-- `bnez rX, label`. -/
  | bnez (rx : Fin 8) (line : Nat)
  /-- `beqz rX, label`. -/
  | beqz (rx : Fin 8) (line : Nat)
  deriving DecidableEq, Repr

/-- The host CPU: its registers r0..r7, 64 bits each (R97), and the line it runs next. -/
structure HostCpu where
  regs : Vector Word 8
  line : Nat
  deriving DecidableEq, Repr

/-- A host CPU at the first line of its program, its registers 0 (DESIGN CHOICE, log entry 14). -/
def HostCpu.start : HostCpu where
  regs := Vector.replicate 8 0
  line := 0

/-- The host CPU on its next line. -/
def HostCpu.advance (h : HostCpu) : HostCpu := { h with line := h.line + 1 }

/-- The host CPU with a register written, on its next line. -/
def HostCpu.writeReg (h : HostCpu) (rx : Fin 8) (v : Word) : HostCpu :=
  { regs := h.regs.set rx v, line := h.line + 1 }

/-- The transaction of a host instruction, if it has one (R97): `W off data` or `R off`. -/
def hostTransaction : HostInstr → Option Access
  | .st r v => some (.write (.offset (regOffset r)) accessSize v)
  | .ld _ r => some (.read (.offset (regOffset r)) accessSize)
  | .andi _ _ _ => none
  | .bnez _ _ => none
  | .beqz _ _ => none

/-- The data a read was answered with; a read that got a BusError has the data 0 (R223). -/
def responseData : Option Response → Word
  | some (.data v) => v
  | some (.busError _ _ (some v)) => v
  | some (.busError _ _ none) => 0
  | some .done => 0
  | none => 0

/-- What a host instruction does to the host CPU, given the data its read was answered with (R97). -/
def hostEffect (i : HostInstr) (data : Word) (h : HostCpu) : HostCpu :=
  match i with
  | .st _ _ => h.advance
  | .ld rx _ => h.writeReg rx data
  | .andi rx ry imm => h.writeReg rx (h.regs.get ry &&& imm)
  | .bnez rx line => if h.regs.get rx ≠ 0 then { h with line := line } else h.advance
  | .beqz rx line => if h.regs.get rx = 0 then { h with line := line } else h.advance

/-- A clock slot that carries a host access and no sequencer edge: one host event of R68. -/
def accessTick (a : Option Access) : Tick := { rst := false, access := a, seq := false }

/-- One host instruction against the machine: its transaction, then its effect on the host CPU. A host
past the end of its program does nothing (log entry 14). -/
def hostCpuStep (program : List HostInstr) (h : HostCpu) (s : State) :
    Host.Outcome (HostCpu × State) Fault Refusal :=
  match program[h.line]? with
  | none => .next (h, s)
  | some i =>
    match tick (accessTick (hostTransaction i)) s with
    | .next s' => .next (hostEffect i (responseData s'.response) h, s')
    | .fault f => .fault f
    | .refused r => .refused r

/-- The agent that moves next in an interleaving of host and sequencer (R68). -/
inductive Turn where
  | host | sequencer
  deriving DecidableEq, Repr

/-- One move of the system of host CPU and block. -/
def systemStep (program : List HostInstr) (turn : Turn) (h : HostCpu) (s : State) :
    Host.Outcome (HostCpu × State) Fault Refusal :=
  match turn with
  | .host => hostCpuStep program h s
  | .sequencer =>
    match tick quietTick s with
    | .next s' => .next (h, s')
    | .fault f => .fault f
    | .refused r => .refused r

/-- The system after a schedule of turns. -/
def systemRun (program : List HostInstr) : List Turn → HostCpu → State →
    Host.Outcome (HostCpu × State) Fault Refusal
  | [], h, s => .next (h, s)
  | t :: ts, h, s =>
    match systemStep program t h s with
    | .next (h', s') => systemRun program ts h' s'
    | .fault f => .fault f
    | .refused r => .refused r

/-- `cmd M` (R98). -/
def pseudoCmd (i : Instr) : List HostInstr := [.st .ctrl (encode i)]

/-- `wait`, standing at a line: `L: ld r7, STATUS ; andi r7, r7, 1 ; bnez r7, L` (R98). -/
def pseudoWait (line : Nat) : List HostInstr := [.ld 7 .status, .andi 7 7 1, .bnez 7 line]

/-- `clr` (R98). -/
def pseudoClr : List HostInstr := [.st .status 0x6]

/-- `run M`, standing at a line: `cmd M ; wait` (R98). -/
def pseudoRun (line : Nat) (i : Instr) : List HostInstr := pseudoCmd i ++ pseudoWait (line + 1)

end Sys2Proof.Machine
end

