-- ==== Sys2Proof/Safety.lean ====
section
/-! DEFINITION. What a safe run is: the invariant of the block that every step keeps, in the spec's own
terms. Each part names the rules it collects. -/

namespace Sys2Proof.Machine

/-- Legal values of the stored fields: OPR is 0..5 (R22), ITER is 0..43 (R28), and ERRC is 0 exactly
while ERR is 0 (R26, R221, R222). -/
abbrev Block.LegalValues (b : Block) : Prop :=
  b.opr ≤ 5 ∧ b.iter ≤ 43 ∧ (b.err = false ↔ b.errc = .noError)

/-- The commands that pass through each sequencer state: the entry conditions of R124, R144, R168, R187
and R188. -/
def onPath : SeqState → List Instr
  | .idle => [.nop, .descr, .extr, .decode, .crc, .validate]
  | .gate => [.validate]
  | .dsc => [.descr, .decode, .validate]
  | .ext => [.extr, .decode, .validate]
  | .load => [.crc, .validate]
  | .red => [.crc, .validate]
  | .chk => [.crc, .validate]
  | .bl => [.validate]

/-- OPR is a command whose path goes through the state in STATE. -/
abbrev Block.OnPath (b : Block) : Prop := b.opr ∈ (onPath b.state).map opcode

/-- While a command runs DONE is 0: acceptance clears it and only the finish sets it (R25, R183, R225). -/
abbrev Block.DoneOnlyAtEnd (b : Block) : Prop := b.state ≠ .idle → b.done = false

/-- ITER on entry to RED is in 0..42, and it is 43 in CHK and BL (R169). -/
abbrev Block.IterInRange (b : Block) : Prop :=
  (b.state = .red → b.iter ≤ 42) ∧ (b.state = .chk ∨ b.state = .bl → b.iter = 43)

/-- The result flags of a running CRC or VALIDATE stand as acceptance cleared them until the state that
writes them (R27, R185, R187), and VALID = 1 goes with LEN_OK = 1 and BLACK = 0 (R188, C9). -/
abbrev Block.FlagsInOrder (b : Block) : Prop :=
  (b.state ≠ .idle → b.opr = opcode .crc → b.crcOk = false) ∧
  (b.state ≠ .idle → b.opr = opcode .validate →
    b.black = false ∧ b.valid = false ∧
    (b.lenOk = true ↔ b.state ≠ .gate) ∧ (b.crcOk = true ↔ b.state = .bl)) ∧
  (b.valid = true → b.lenOk = true ∧ b.black = false)

/-- The states after DSC, and after EXT, on the path of a command that runs them. -/
def pastDsc : SeqState → Bool
  | .idle | .gate | .dsc => false
  | .ext | .load | .red | .chk | .bl => true

/-- The states after LOAD. -/
def pastExt : SeqState → Bool
  | .idle | .gate | .dsc | .ext => false
  | .load | .red | .chk | .bl => true

/-- The data registers hold what the states passed so far put there (R66, R124, R144, R168 to R170):
the inputs of a running command cannot change under it. -/
abbrev Block.DataInOrder (b : Block) : Prop :=
  (pastDsc b.state = true → b.opr = opcode .decode ∨ b.opr = opcode .validate →
    b.unscr = descramble b.num) ∧
  (pastExt b.state = true → b.opr = opcode .validate →
    b.digits = requiredDigits ∧ b.fields = pack (extract b.unscr)) ∧
  (b.state = .dsc ∨ b.state = .ext → b.opr = opcode .validate → b.digits = requiredDigits) ∧
  (b.state = .red → b.temp = reduce b.unscr b.iter.toNat) ∧
  (b.state = .chk ∨ b.state = .bl → b.temp = reduce b.unscr crcIters) ∧
  (b.state = .bl → isChecksumValid b.unscr = true)

/-- The bits of FIELDS that R141 gives no field are 0, since only state EXT writes FIELDS (R37). -/
abbrev Block.FieldsLayout (b : Block) : Prop := b.fields &&& ~~~0x0007071FFFFFFFFF = 0

/-- The invariant of the block: every part together. -/
structure Block.Inv (b : Block) : Prop where
  legalValues : b.LegalValues
  onPath : b.OnPath
  doneOnlyAtEnd : b.DoneOnlyAtEnd
  iterInRange : b.IterInRange
  flagsInOrder : b.FlagsInOrder
  dataInOrder : b.DataInOrder
  fieldsLayout : b.FieldsLayout

/-- The invariant of the machine: its block meets the block's. It says nothing of the outside world. -/
def State.Inv (s : State) : Prop := s.block.Inv

/-- What the sequencer and a command's result depend on (R39 less DONE, ERR, ERRC and IE): the fields
no host access changes while a command runs (R66, R195). -/
structure CommandView where
  opr : BitVec 4
  state : SeqState
  iter : BitVec 6
  lenOk : Bool
  crcOk : Bool
  black : Bool
  valid : Bool
  num : Word
  digits : Word
  unscr : Word
  temp : Word
  fields : Word
  deriving DecidableEq, Repr

/-- The command's view of a block. -/
def commandView (b : Block) : CommandView where
  opr := b.opr
  state := b.state
  iter := b.iter
  lenOk := b.lenOk
  crcOk := b.crcOk
  black := b.black
  valid := b.valid
  num := b.num
  digits := b.digits
  unscr := b.unscr
  temp := b.temp
  fields := b.fields

end Sys2Proof.Machine
end

