-- ==== Sys2Proof/Certificates/Slice0/Obligations.lean ====
section
/-! DEFINITION. The statements for the provers. Each docstring names the rule of spec/ it formalises. -/

open Sys2Proof Sys2Proof.Machine

/-! ## Encoding -/

/-- R93: the opcode map, each word written out from its row, and the reserved opcodes 6..15. -/
def Obligations.DecoderReadsTheOpcodeMap : Prop :=
  decode 0x0000000000000000 = .ok .nop ∧ decode 0x0000000000000001 = .ok .descr ∧
  decode 0x0000000000000002 = .ok .extr ∧ decode 0x0000000000000003 = .ok .decode ∧
  decode 0x0000000000000004 = .ok .crc ∧ decode 0x0000000000000005 = .ok .validate ∧
  ∀ w ∈ ([6, 7, 8, 9, 10, 11, 12, 13, 14, 15] : List Word), decode w = .error .reservedOpcode

/-- R94: a word is legal iff bits 63:4 are 0 and bits 3:0 are at most 5; every other word is illegal,
raises ILLEGAL_CMD while BUSY = 0 and, legal or not, BUSY_WRITE while BUSY = 1. -/
def Obligations.LegalWordsAreTheSixCommands : Prop :=
  ∀ w : Word,
    ((∃ i, decode w = .ok i) ↔ (w.toNat / 16 = 0 ∧ w.toNat % 16 ≤ 5)) ∧
    (∀ s : State, s.block.state = .idle → ¬(w.toNat / 16 = 0 ∧ w.toNat % 16 ≤ 5) →
      ctrlWrite w s = .next { s with block := illegalCommand s.block }) ∧
    (∀ s : State, s.block.state ≠ .idle → ctrlWrite w s = .next { s with block := busyWrite s.block })

/-- R96 with R93, both directions: a command decodes from its own word `zext_64(OP(m))` and from no
other of the 2^64 words. -/
def Obligations.DecodeAndEncodeAgree : Prop :=
  (∀ i : Instr, i.wf = true → decode (encode i) = .ok i) ∧
  (∀ (w : Word) (i : Instr), decode w = .ok i → w = encode i) ∧
  (∀ i : Instr, (encode i).toNat = (opcode i).toNat)

/-- R63: lane k carries bits 8k+7..8k of the value, lane 0 the least significant, and the eight lanes
give the value back. -/
def Obligations.BusLanesCarryTheWord : Prop :=
  ∀ v : Word, (busLanes v).length = 8 ∧ ofLanes (busLanes v) = v ∧
    ∀ k, k < 8 → (busLanes v)[k]? = some (v.extractLsb' (8 * k) 8)

/-! ## The step and the bus -/

/-- R90, R183: a slot that writes a legal word to CTRL runs exec of the decoded command, at the state with
that slot taken and the write answered. A sequencer edge in the slot steps only a block that was busy
when the slot began (R181; the model's choice, log entry 6; the answer done, log entry 3). -/
def Obligations.StepRunsTheDecodedCommand : Prop :=
  ∀ (s : State) (w : Word) (i : Instr) (edge : Bool) (rest : List Tick),
    s.inputs = { rst := false, access := some (.write (.offset 0x00) 8 w), seq := edge } :: rest →
    decode w = .ok i →
    ((edge = false ∨ s.block.state = .idle) →
      step s = exec i { s with inputs := rest, response := some .done }) ∧
    (edge = true → s.block.state ≠ .idle → ∃ t : State,
      exec i { s with inputs := rest, response := some .done } = .next t ∧
      step s = .next { t with block := seqStep t.block })

/-- R62, R64, R65, R68: a slot without reset performs the access it carries, whatever access it is, and the
machine is then as hostAccess left it, or one sequencer step further where the slot has an edge and the
block was busy when the slot began (log entries 1, 6). A slot with neither access nor edge is a stopped
clock, which keeps the block (R237; log entry 16). -/
def Obligations.StepPerformsTheSlotsAccess : Prop :=
  (∀ (s : State) (a : Access) (edge : Bool) (rest : List Tick),
    s.inputs = { rst := false, access := some a, seq := edge } :: rest →
    ∃ t : State, hostAccess a { s with inputs := rest } = .next t ∧ t.inputs = rest ∧
      ((edge = false ∨ s.block.state = .idle) → step s = .next t) ∧
      (edge = true → s.block.state ≠ .idle → step s = .next { t with block := seqStep t.block })) ∧
  (∀ (s : State) (rest : List Tick),
    s.inputs = { rst := false, access := none, seq := false } :: rest →
    step s = .next { block := s.block, inputs := rest, response := none })

/-- R181, R186: with no input waiting the machine's step is one sequencer step (the model's choice, log
entry 1), which in IDLE changes nothing in the block; a slot that carries only a sequencer edge does
the same. -/
def Obligations.QuietStepIsOneSequencerStep : Prop :=
  (∀ s : State, s.inputs = [] → step s = .next { s with block := seqStep s.block, response := none }) ∧
  (∀ (s : State) (rest : List Tick),
    s.inputs = { rst := false, access := none, seq := true } :: rest →
    step s = .next { block := seqStep s.block, inputs := rest, response := none }) ∧
  (∀ b : Block, b.state = .idle → seqStep b = b)

/-- R220: nothing stops the block. Every state has a next state, and so has every command in every state. -/
def Obligations.NothingStopsTheBlock : Prop :=
  (∀ s : State, ∃ s' : State, step s = .next s') ∧
  (∀ (i : Instr) (s : State), ∃ s' : State, exec i s = .next s')

/-- R183 with R184 and R185: the branches of CtrlWrite, in their order. -/
def Obligations.CtrlWriteBranches : Prop :=
  ∀ (w : Word) (s : State),
    (s.block.state ≠ .idle → ctrlWrite w s = .next { s with block := recordErr .busyWrite s.block }) ∧
    (s.block.state = .idle → ¬(w.toNat / 16 = 0 ∧ w.toNat % 16 ≤ 5) →
      ctrlWrite w s = .next { s with block := { recordErr .illegalCmd s.block with done := true } }) ∧
    (s.block.state = .idle → w = 0 →
      ctrlWrite w s = .next { s with block := { s.block with opr := 0, done := true } }) ∧
    (s.block.state = .idle → w = 1 → ctrlWrite w s =
      .next { s with block := { s.block with opr := 1, done := false, state := .dsc } }) ∧
    (s.block.state = .idle → w = 2 → ctrlWrite w s =
      .next { s with block := { s.block with opr := 2, done := false, state := .ext } }) ∧
    (s.block.state = .idle → w = 3 → ctrlWrite w s =
      .next { s with block := { s.block with opr := 3, done := false, state := .dsc } }) ∧
    (s.block.state = .idle → w = 4 → ctrlWrite w s =
      .next { s with block := { s.block with
        opr := 4, done := false, state := .load, crcOk := false } }) ∧
    (s.block.state = .idle → w = 5 → ctrlWrite w s =
      .next { s with block := { s.block with
        opr := 5, done := false, state := .gate,
        lenOk := false, crcOk := false, black := false, valid := false } })

/-- R222: the first error since ERR was clear keeps its code, and ERR is set. -/
def Obligations.FirstErrorKeepsItsCode : Prop :=
  ∀ (c : ErrCode) (b : Block),
    (b.err = false → recordErr c b = { b with errc := c, err := true }) ∧
    (b.err = true → recordErr c b = b)

/-- R224: an illegal word written to CTRL in IDLE is recorded, sets DONE and changes nothing else. -/
def Obligations.IllegalCommandIsRecorded : Prop :=
  ∀ (s : State) (w : Word), s.block.state = .idle → (w >>> 4 ≠ 0 ∨ 6 ≤ w.toNat % 16) →
    ∃ t : State, hostAccess (.write (.offset 0x00) 8 w) s = .next t ∧ t.inputs = s.inputs ∧
      t.block = { s.block with
        errc := if s.block.err then s.block.errc else .illegalCmd, err := true, done := true }

/-- R225: a write to CTRL, NUM, DIGITS or UNSCR while a command runs is dropped and recorded; nothing
else changes, DONE included. -/
def Obligations.BusyWriteIsDropped : Prop :=
  ∀ (s : State) (v : Word) (off : Nat), s.block.state ≠ .idle → off ∈ [0x00, 0x18, 0x20, 0x28] →
    ∃ t : State, hostAccess (.write (.offset off) 8 v) s = .next t ∧ t.inputs = s.inputs ∧
      t.block = { s.block with
        errc := if s.block.err then s.block.errc else .busyWrite, err := true }

/-- R65: what a host write of each register does, with R67 for TEMP, FIELDS and the reserved bits: no error
is recorded for them, and no write of a register gives a bus error. -/
def Obligations.HostWriteEffects : Prop :=
  ∀ (s : State) (v : Word),
    let leaves (off : Nat) (b : Block) : Prop :=
      ∃ t : State, hostAccess (.write (.offset off) 8 v) s = .next t ∧ t.inputs = s.inputs ∧
        t.block = b ∧ ∀ o m r, t.response ≠ some (.busError o m r)
    (∃ u : State, ctrlWrite v s = .next u ∧ leaves 0x00 u.block) ∧
    leaves 0x08 { s.block with
      done := if v.getLsbD 1 then false else s.block.done,
      err := if v.getLsbD 2 then false else s.block.err,
      errc := if v.getLsbD 2 then .noError else s.block.errc } ∧
    leaves 0x10 { s.block with ie := v.getLsbD 0 } ∧
    leaves 0x18 (if s.block.state ≠ .idle then recordErr .busyWrite s.block
      else { s.block with num := v }) ∧
    leaves 0x20 (if s.block.state ≠ .idle then recordErr .busyWrite s.block
      else { s.block with digits := v }) ∧
    leaves 0x28 (if s.block.state ≠ .idle then recordErr .busyWrite s.block
      else { s.block with unscr := v }) ∧
    leaves 0x30 s.block ∧ leaves 0x38 s.block

/-- R64: what a host read of each register answers, with no side effect on the block. -/
def Obligations.HostReadValues : Prop :=
  ∀ s : State,
    let answer (v : Word) : Host.Outcome State Fault Refusal :=
      .next { s with response := some (.data v) }
    hostAccess (.read (.offset 0x00) 8) s = answer (s.block.opr.setWidth 64) ∧
    hostAccess (.read (.offset 0x08) 8) s = answer
      ((stateCode s.block.state).setWidth 64 <<< 24 ||| s.block.iter.setWidth 64 <<< 16
        ||| flagBit s.block.valid <<< 11 ||| flagBit s.block.black <<< 10
        ||| flagBit s.block.crcOk <<< 9 ||| flagBit s.block.lenOk <<< 8
        ||| (errCodeBits s.block.errc).setWidth 64 <<< 4 ||| flagBit s.block.err <<< 2
        ||| flagBit s.block.done <<< 1 ||| (if s.block.state ≠ .idle then 1 else 0)) ∧
    hostAccess (.read (.offset 0x10) 8) s = answer (if s.block.ie then 1 else 0) ∧
    hostAccess (.read (.offset 0x18) 8) s = answer s.block.num ∧
    hostAccess (.read (.offset 0x20) 8) s = answer s.block.digits ∧
    hostAccess (.read (.offset 0x28) 8) s = answer s.block.unscr ∧
    hostAccess (.read (.offset 0x30) 8) s = answer s.block.temp ∧
    hostAccess (.read (.offset 0x38) 8) s = answer s.block.fields

/-- The eight STATE codes (R29) and the three ERRC codes (R221) as the spec numbers them, and (R23) the
place of each field of the word a host reads from STATUS: every reserved bit reads 0, STATE is never
above 7 and ERRC is never above 2. -/
def Obligations.StatusLayout : Prop :=
  (stateCode .idle = 0 ∧ stateCode .gate = 1 ∧ stateCode .dsc = 2 ∧ stateCode .ext = 3 ∧
    stateCode .load = 4 ∧ stateCode .red = 5 ∧ stateCode .chk = 6 ∧ stateCode .bl = 7) ∧
  (errCodeBits .noError = 0 ∧ errCodeBits .illegalCmd = 1 ∧ errCodeBits .busyWrite = 2) ∧
  ∀ b : Block,
    (statusWord b).getLsbD 0 = (b.state != .idle) ∧
    (statusWord b).getLsbD 1 = b.done ∧
    (statusWord b).getLsbD 2 = b.err ∧
    (statusWord b).getLsbD 3 = false ∧
    (statusWord b).extractLsb' 4 4 = errCodeBits b.errc ∧
    (statusWord b).getLsbD 8 = b.lenOk ∧
    (statusWord b).getLsbD 9 = b.crcOk ∧
    (statusWord b).getLsbD 10 = b.black ∧
    (statusWord b).getLsbD 11 = b.valid ∧
    (statusWord b).extractLsb' 12 4 = 0 ∧
    (statusWord b).extractLsb' 16 6 = b.iter ∧
    (statusWord b).extractLsb' 22 2 = 0 ∧
    (statusWord b).extractLsb' 24 4 = stateCode b.state ∧
    (statusWord b).extractLsb' 28 36 = 0 ∧
    (statusWord b).extractLsb' 24 4 ≤ 7 ∧ (statusWord b).extractLsb' 4 4 ≤ 2

/-- R62, R223: an access is performed only if it has 8 bytes, an offset that is a multiple of 8 and below
0x40. Any other gets a BusError: no block state changes and a read has the data 0. -/
def Obligations.BadAccessGetsBusError : Prop :=
  ∀ (s : State) (off n : Nat) (v : Word),
    (¬(n = 8 ∧ off % 8 = 0 ∧ off < 0x40) →
      hostAccess (.read (.offset off) n) s =
        .next { s with response := some (.busError off n (some 0)) } ∧
      ∃ (t : State) (r : Option Word), hostAccess (.write (.offset off) n v) s = .next t ∧
        t.block = s.block ∧ t.inputs = s.inputs ∧ t.response = some (.busError off n r)) ∧
    (n = 8 ∧ off % 8 = 0 ∧ off < 0x40 →
      (∃ d, hostAccess (.read (.offset off) n) s = .next { s with response := some (.data d) }) ∧
      (∃ t : State, hostAccess (.write (.offset off) n v) s = .next t ∧
        ∀ o m r, t.response ≠ some (.busError o m r)))

/-- R60: bus address BASE + off is window offset off, and an address outside the window never reaches
the block, whatever BASE is (an opaque constant, log entry 2; no answer, log entry 10). -/
def Obligations.WindowStandsAtBase : Prop :=
  ∀ (s : State) (n : Nat) (v : Word),
    (∀ off, off < 0x40 →
      hostAccess (.read (.address (Config.base + off)) n) s = hostAccess (.read (.offset off) n) s ∧
      hostAccess (.write (.address (Config.base + off)) n v) s =
        hostAccess (.write (.offset off) n v) s) ∧
    (∀ addr, (addr < Config.base ∨ Config.base + 0x40 ≤ addr) →
      hostAccess (.read (.address addr) n) s = .next { s with response := none } ∧
      hostAccess (.write (.address addr) n v) s = .next { s with response := none })

/-- R228: the interrupt output, at every state. -/
def Obligations.InterruptEquation : Prop :=
  ∀ b : Block, irq b = true ↔ b.ie = true ∧ (b.done = true ∨ b.err = true)

/-- R230: if the sequencer finishes in the clock of a W1C of DONE, DONE ends at 1. -/
def Obligations.FinishBeatsAcknowledge : Prop :=
  ∀ (s : State) (v : Word) (rest : List Tick), s.block.state ≠ .idle →
    (seqStep s.block).state = .idle →
    s.inputs = { rst := false, access := some (.write (.offset 0x08) 8 v), seq := true } :: rest →
    ∃ s' : State, step s = .next s' ∧ s'.block.done = true ∧ s'.block.state = .idle

/-! ## Reset -/

/-- R40: every field of the record is 0 after reset, and so every register reads 0. -/
def Obligations.ResetRecordIsZero : Prop :=
  State.reset.block = {
    opr := 0, state := .idle, iter := 0, done := false, err := false, errc := .noError,
    lenOk := false, crcOk := false, black := false, valid := false, ie := false,
    num := 0, digits := 0, unscr := 0, temp := 0, fields := 0 } ∧
  (∀ r : Reg, readReg r State.reset.block = 0) ∧ stateCode State.reset.block.state = 0 ∧
  errCodeBits State.reset.block.errc = 0

/-- R250, R74: a slot with `rst` asserted puts every field at its reset value, whatever the block was
doing; no access and no sequencer step takes effect in it, a read in it gets 0 and there is no
BusError, at a window offset and at a bus address of the window alike. -/
def Obligations.ResetWinsOverEverything : Prop :=
  ∀ (s : State) (t : Tick) (rest : List Tick), t.rst = true → s.inputs = t :: rest →
    ∃ s' : State, step s = .next s' ∧ s'.block = State.reset.block ∧ s'.inputs = rest ∧
      (∀ off n, t.access = some (.read (.offset off) n) → s'.response = some (.data 0)) ∧
      (∀ off n, off < 0x40 → t.access = some (.read (.address (Config.base + off)) n) →
        s'.response = some (.data 0)) ∧
      (∀ off n r, s'.response ≠ some (.busError off n r))

/-! ## The commands -/

/-- R189: NOP completes in the access itself; while busy it is a BUSY_WRITE; from reset it leaves
STATUS = 0x2. -/
def Obligations.NopCompletesAtOnce : Prop :=
  decode 0x0000000000000000 = .ok .nop ∧
  (∀ s : State, s.block.state = .idle →
    exec .nop s = .next { s with block := { s.block with opr := 0, done := true } }) ∧
  (∀ s : State, s.block.state ≠ .idle →
    exec .nop s = .next { s with block := recordErr .busyWrite s.block }) ∧
  exec .nop State.reset = .next { State.reset with block := { State.reset.block with done := true } } ∧
  statusWord { State.reset.block with done := true } = 0x2

/-- R123: DESCR, from any idle block, is accepted with first state DSC and after one sequencer step has put
descramble(NUM) into UNSCR, with DONE set and nothing else changed; the corner cases and the example. -/
def Obligations.DescrDescramblesNum : Prop :=
  decode 0x0000000000000001 = .ok .descr ∧
  (∀ s : State, s.block.state = .idle →
    exec .descr s =
      .next { s with block := { s.block with opr := 1, done := false, state := .dsc } } ∧
    seqRun 1 { s.block with opr := 1, done := false, state := .dsc } =
      { s.block with opr := 1, done := true, state := .idle, unscr := descramble s.block.num }) ∧
  (∀ s : State, s.block.state ≠ .idle →
    exec .descr s = .next { s with block := recordErr .busyWrite s.block }) ∧
  (∀ x : Word, descramble (x &&& 0x1FFFFFFFFFFFFF) = descramble x) ∧
  descramble 0 = 0x0252E1E1E1E1E3A1 ∧ descramble 0x0020000000000000 = 0x0252E1E1E1E1E3A1 ∧
  descramble 8633996976788964 = 0x3FA8891A2B3C0E4E

/-- R145: EXTR, from any idle block, is accepted with first state EXT and after one sequencer step has put
the packed fields of UNSCR into FIELDS; the corner cases and the example. -/
def Obligations.ExtrPacksTheFields : Prop :=
  decode 0x0000000000000002 = .ok .extr ∧
  (∀ s : State, s.block.state = .idle →
    exec .extr s =
      .next { s with block := { s.block with opr := 2, done := false, state := .ext } } ∧
    seqRun 1 { s.block with opr := 2, done := false, state := .ext } =
      { s.block with opr := 2, done := true, state := .idle,
                     fields := pack (extract s.block.unscr) }) ∧
  (∀ s : State, s.block.state ≠ .idle →
    exec .extr s = .next { s with block := recordErr .busyWrite s.block }) ∧
  (∀ u : Word, extract (u &&& 0x001FFFFFFFFFFC00) = extract u) ∧
  pack (extract 0xFFFFFFFFFFFFFFFF) = 0x0007071FFFFFFFFF ∧
  pack (extract 0x7FFF) = 0x0000001F00000000 ∧
  pack (extract 0x3FA8891A2B3C0E4E) = 0x0002010312345678

/-- R146: DECODE, from any idle block, runs DSC and EXT; after two sequencer steps UNSCR and FIELDS hold
the decoded number; the corner case and the example. -/
def Obligations.DecodeFillsUnscrAndFields : Prop :=
  decode 0x0000000000000003 = .ok .decode ∧
  (∀ s : State, s.block.state = .idle →
    exec .decode s =
      .next { s with block := { s.block with opr := 3, done := false, state := .dsc } } ∧
    seqRun 1 { s.block with opr := 3, done := false, state := .dsc } =
      { s.block with opr := 3, done := false, state := .ext, unscr := descramble s.block.num } ∧
    seqRun 2 { s.block with opr := 3, done := false, state := .dsc } =
      { s.block with opr := 3, done := true, state := .idle, unscr := descramble s.block.num,
                     fields := pack (extract (descramble s.block.num)) }) ∧
  (∀ s : State, s.block.state ≠ .idle →
    exec .decode s = .next { s with block := recordErr .busyWrite s.block }) ∧
  descramble 0 = 0x0252E1E1E1E1E3A1 ∧ pack (extract (descramble 0)) = 0x00040518C3C3C3C3 ∧
  descramble 8633996976788964 = 0x3FA8891A2B3C0E4E ∧
  pack (extract (descramble 8633996976788964)) = 0x0002010312345678

/-- R171: CRC, from any idle block, is accepted with CRC_OK cleared and first state LOAD; after 45
sequencer steps, and not before, it has completed with TEMP, ITER and CRC_OK of the whole reduction
and every other field as it was; the corner cases and the example. -/
def Obligations.CrcChecksUnscr : Prop :=
  decode 0x0000000000000004 = .ok .crc ∧
  (∀ s : State, s.block.state = .idle →
    exec .crc s = .next { s with block := { s.block with
      opr := 4, done := false, state := .load, crcOk := false } } ∧
    (∀ n, n < 45 →
      (seqRun n { s.block with
        opr := 4, done := false, state := .load, crcOk := false }).state ≠ .idle) ∧
    seqRun 45 { s.block with opr := 4, done := false, state := .load, crcOk := false } =
      { s.block with
        opr := 4, done := true, state := .idle, iter := 43, temp := reduce s.block.unscr 43,
        crcOk := isChecksumValid s.block.unscr }) ∧
  (∀ s : State, s.block.state ≠ .idle →
    exec .crc s = .next { s with block := recordErr .busyWrite s.block }) ∧
  isChecksumValid 0 = true ∧
  isChecksumValid 0x635 = true ∧ reduce 0x635 42 = 0x635 ∧ reduce 0x635 43 = 0 ∧
  isChecksumValid 1 = false ∧ reduce 1 43 = 1 ∧
  isChecksumValid 0x100 = true ∧ isChecksumValid 0x200 = true ∧ isChecksumValid 0x300 = true ∧
  isChecksumValid 0xFF = false ∧
  isChecksumValid 0x0010000000000000 = false ∧ reduce 0x0010000000000000 43 = 0x89 ∧
  isChecksumValid 0x0020000000000000 = true ∧ reduce 0x0020000000000000 43 = 0x0020000000000000 ∧
  isChecksumValid 0xFFFFFFFFFFFFFFFF = false ∧
  reduce 0xFFFFFFFFFFFFFFFF 43 = 0xFFE00000000002E2 ∧
  isChecksumValid 0x3FA8891A2B3C0E4E = true ∧ reduce 0x3FA8891A2B3C0E4E 43 = 0x3FA0000000000000

/-- R190, with the end state of each exit path (the spec derives R192 from it): from any idle block
VALIDATE clears the four result flags and completes, on the length failure after one sequencer step,
on the checksum failure after 48, and otherwise after 49 with the blacklist's verdict; the example. -/
def Obligations.ValidateRunsTheGates : Prop :=
  decode 0x0000000000000005 = .ok .validate ∧
  (∀ s : State, s.block.state = .idle →
    let a : Block := { s.block with
      opr := 5, done := false, state := .gate,
      lenOk := false, crcOk := false, black := false, valid := false }
    let u := descramble s.block.num
    let e : Block := { a with
      done := true, state := .idle, lenOk := true, iter := 43, unscr := u, temp := reduce u 43,
      fields := pack (extract u) }
    exec .validate s = .next { s with block := a } ∧
    (s.block.digits ≠ 16 → seqRun 1 a = { a with done := true, state := .idle }) ∧
    (s.block.digits = 16 → isChecksumValid u = false →
      seqRun 48 a = e ∧ ∀ n, n < 48 → (seqRun n a).state ≠ .idle) ∧
    (s.block.digits = 16 → isChecksumValid u = true → (extract u).entityId = 0x0403AC68 →
      seqRun 49 a = { e with crcOk := true, black := true } ∧
      ∀ n, n < 49 → (seqRun n a).state ≠ .idle) ∧
    (s.block.digits = 16 → isChecksumValid u = true → (extract u).entityId ≠ 0x0403AC68 →
      seqRun 49 a = { e with crcOk := true, valid := true } ∧
      ∀ n, n < 49 → (seqRun n a).state ≠ .idle)) ∧
  (∀ s : State, s.block.state ≠ .idle →
    exec .validate s = .next { s with block := recordErr .busyWrite s.block }) ∧
  (∀ x : Word, descramble (x &&& 0x1FFFFFFFFFFFFF) = descramble x) ∧
  (∀ s : State, s.block = { State.reset.block with num := 8633996976788964, digits := 16 } →
    ∃ t : State, exec .validate s = .next t ∧ (seqRun 49 t.block).valid = true ∧
      statusWord (seqRun 49 t.block) = 0x00000000002B0B02)

/-- R191 (the spec derives it): VALIDATE completes within 49 sequencer steps, and VALID is then 1 iff the
digit count is 16, the checksum of the descrambled number passes and its entity id is not the
sentinel. -/
def Obligations.ValidateVerdict : Prop :=
  ∀ s : State, s.block.state = .idle → ∃ t : State, exec .validate s = .next t ∧
    ∃ n, n ≤ 49 ∧ (seqRun n t.block).state = .idle ∧ (seqRun n t.block).done = true ∧
      ((seqRun n t.block).valid = true ↔
        s.block.digits = 16 ∧ isChecksumValid (descramble s.block.num) = true ∧
        (extract (descramble s.block.num)).entityId ≠ 0x0403AC68)

/-- The frame of acceptance (R92, R183, R185): whatever the command and the block, exec changes no data
register, not ITER, not IE and nothing outside the block; it changes the result flags only as R185
says and the error record only while busy. -/
def Obligations.ExecFrame : Prop :=
  ∀ (i : Instr) (s t : State), exec i s = .next t →
    t.inputs = s.inputs ∧ t.response = s.response ∧
    t.block.num = s.block.num ∧ t.block.digits = s.block.digits ∧ t.block.unscr = s.block.unscr ∧
    t.block.temp = s.block.temp ∧ t.block.fields = s.block.fields ∧ t.block.iter = s.block.iter ∧
    t.block.ie = s.block.ie ∧
    (i ≠ .validate → t.block.lenOk = s.block.lenOk ∧ t.block.black = s.block.black ∧
      t.block.valid = s.block.valid) ∧
    (i ≠ .validate → i ≠ .crc → t.block.crcOk = s.block.crcOk) ∧
    (s.block.state = .idle → t.block.err = s.block.err ∧ t.block.errc = s.block.errc) ∧
    (s.block.state ≠ .idle → t.block.opr = s.block.opr ∧ t.block.state = s.block.state ∧
      t.block.done = s.block.done ∧ t.block.lenOk = s.block.lenOk ∧ t.block.crcOk = s.block.crcOk ∧
      t.block.black = s.block.black ∧ t.block.valid = s.block.valid)

/-! ## The sequencer -/

/-- R187, R124, R144, R168, R170, R188: the action of each state but RED, with everything it leaves as it
was, for each OPR its rule names. -/
def Obligations.SequencerStateActions : Prop :=
  ∀ b : Block,
    (b.state = .gate → b.digits = 16 → seqStep b = { b with lenOk := true, state := .dsc }) ∧
    (b.state = .gate → b.digits ≠ 16 → seqStep b = { b with state := .idle, done := true }) ∧
    (b.state = .dsc → b.opr = 1 →
      seqStep b = { b with unscr := descramble b.num, state := .idle, done := true }) ∧
    (b.state = .dsc → b.opr = 3 ∨ b.opr = 5 →
      seqStep b = { b with unscr := descramble b.num, state := .ext }) ∧
    (b.state = .ext → b.opr = 5 →
      seqStep b = { b with fields := pack (extract b.unscr), state := .load }) ∧
    (b.state = .ext → b.opr = 2 ∨ b.opr = 3 →
      seqStep b = { b with fields := pack (extract b.unscr), state := .idle, done := true }) ∧
    (b.state = .load → seqStep b = { b with temp := b.unscr, iter := 0, state := .red }) ∧
    (b.state = .chk → b.opr = 5 → b.temp.setWidth 8 = 0 →
      seqStep b = { b with crcOk := true, state := .bl }) ∧
    (b.state = .chk → b.opr ≠ 5 ∨ b.temp.setWidth 8 ≠ 0 →
      seqStep b = { b with
        crcOk := decide (b.temp.setWidth 8 = 0), state := .idle, done := true }) ∧
    (b.state = .bl → seqStep b = { b with
      black := decide (b.fields.setWidth 32 = 0x0403AC68),
      valid := decide (b.fields.setWidth 32 ≠ 0x0403AC68), state := .idle, done := true })

/-- R169: one RED step for every ITER it can be entered with, and the whole reduction: from any RED state
with ITER = 0, after k steps TEMP is the reduction's value before iteration k. -/
def Obligations.RedRunsTheReduction : Prop :=
  (∀ b : Block, b.state = .red → b.iter < 42 →
    seqStep b = { b with temp := redStep b.temp b.iter.toNat, iter := b.iter + 1 }) ∧
  (∀ b : Block, b.state = .red → b.iter = 42 →
    seqStep b = { b with temp := redStep b.temp 42, iter := 43, state := .chk }) ∧
  (∀ (b : Block) (k : Nat), b.state = .red → b.iter = 0 → k < 43 →
    seqRun k b = { b with temp := reduce b.temp k, iter := BitVec.ofNat 6 k }) ∧
  (∀ b : Block, b.state = .red → b.iter = 0 →
    seqRun 43 b = { b with temp := reduce b.temp 43, iter := 43, state := .chk })

/-- The transition table of 44_orchestrator.md, over every step but a reset: STATE moves along its rows
only, and from IDLE only by a CTRL write that is accepted. -/
def Obligations.StateMovesAlongTheTable : Prop :=
  ∀ s s' : State, step s = .next s' → (nextInput s.inputs).1.rst = false →
    s'.block.state = s.block.state ∨
    (s.block.state, s'.block.state) ∈
      ([(.idle, .dsc), (.idle, .ext), (.idle, .load), (.idle, .gate), (.gate, .dsc), (.gate, .idle),
        (.dsc, .idle), (.dsc, .ext), (.ext, .load), (.ext, .idle), (.load, .red), (.red, .chk),
        (.chk, .bl), (.chk, .idle), (.bl, .idle)] : List (SeqState × SeqState)) ∧
    (s.block.state = .idle → ∃ p w i,
      (nextInput s.inputs).1.access = some (.write p 8 w) ∧ placeOffset p = some 0x00 ∧
      decode w = .ok i ∧ i ≠ .nop ∧ s'.block.opr = opcode i ∧ s'.block.done = false)

/-! ## Whole-machine rules -/

/-- R26: ERR is cleared only by a host write of STATUS with bit 2 set or by reset, and the sequencer never
writes ERR or ERRC. -/
def Obligations.ErrIsSticky : Prop :=
  (∀ b : Block, (seqStep b).err = b.err ∧ (seqStep b).errc = b.errc) ∧
  (∀ s s' : State, step s = .next s' → s.block.err = true →
    (s'.block.err = true ∧ s'.block.errc = s.block.errc) ∨
    (nextInput s.inputs).1.rst = true ∨
    (∃ p v, (nextInput s.inputs).1.access = some (.write p 8 v) ∧ placeOffset p = some 0x08 ∧
      v.getLsbD 2 = true ∧ s'.block.err = false ∧ s'.block.errc = .noError))

/-- R25: DONE changes only by a finish, by a NOP or an illegal word written to CTRL in IDLE, by the
acceptance of a command other than NOP, or by a write of STATUS with bit 1 set; reset apart. -/
def Obligations.DoneIsWrittenThreeWays : Prop :=
  ∀ s s' : State, step s = .next s' → (nextInput s.inputs).1.rst = false →
    s'.block.done = s.block.done ∨
    (s'.block.done = true ∧ s.block.state ≠ .idle ∧ s'.block.state = .idle) ∨
    (s'.block.done = true ∧ s.block.state = .idle ∧ ∃ p w,
      (nextInput s.inputs).1.access = some (.write p 8 w) ∧ placeOffset p = some 0x00 ∧
      ∀ i, decode w = .ok i → i = .nop) ∨
    (s'.block.done = false ∧ s.block.state = .idle ∧ s'.block.state ≠ .idle) ∨
    (s'.block.done = false ∧ ∃ p v,
      (nextInput s.inputs).1.access = some (.write p 8 v) ∧ placeOffset p = some 0x08 ∧
      v.getLsbD 1 = true)

/-- R27: each result flag changes only at the points the rule names, and there to the value it names;
reset apart. -/
def Obligations.ResultFlagsChangeAtTheirPoints : Prop :=
  ∀ s s' : State, step s = .next s' → (nextInput s.inputs).1.rst = false →
    let accepts (i : Instr) : Prop :=
      s.block.state = .idle ∧ s'.block.state ≠ .idle ∧ s'.block.opr = opcode i
    (s'.block.lenOk = s.block.lenOk ∨ accepts .validate ∧ s'.block.lenOk = false ∨
      s.block.state = .gate ∧ s.block.digits = 16 ∧ s'.block.lenOk = true) ∧
    (s'.block.crcOk = s.block.crcOk ∨
      (accepts .crc ∨ accepts .validate) ∧ s'.block.crcOk = false ∨
      s.block.state = .chk ∧ s'.block.crcOk = decide (s.block.temp.setWidth 8 = 0)) ∧
    (s'.block.black = s.block.black ∨ accepts .validate ∧ s'.block.black = false ∨
      s.block.state = .bl ∧ s'.block.black = decide (s.block.fields.setWidth 32 = 0x0403AC68)) ∧
    (s'.block.valid = s.block.valid ∨ accepts .validate ∧ s'.block.valid = false ∨
      s.block.state = .bl ∧ s'.block.valid = decide (s.block.fields.setWidth 32 ≠ 0x0403AC68))

/-- R21, R28, R31, R33 to R37: who writes each register. Reset apart, NUM, DIGITS and IE change only by a
host write at their offset, UNSCR by one or by state DSC, TEMP and ITER only by LOAD and RED, FIELDS
only by EXT, and OPR only by a CTRL write that is accepted. -/
def Obligations.WhoWritesEachRegister : Prop :=
  ∀ s s' : State, step s = .next s' → (nextInput s.inputs).1.rst = false →
    let hostWrites (off : Nat) (v : Word) : Prop := ∃ p,
      (nextInput s.inputs).1.access = some (.write p 8 v) ∧ placeOffset p = some off
    (s'.block.num = s.block.num ∨ s.block.state = .idle ∧ hostWrites 0x18 s'.block.num) ∧
    (s'.block.digits = s.block.digits ∨ s.block.state = .idle ∧ hostWrites 0x20 s'.block.digits) ∧
    (s'.block.unscr = s.block.unscr ∨ s.block.state = .idle ∧ hostWrites 0x28 s'.block.unscr ∨
      s.block.state = .dsc ∧ s'.block.unscr = descramble s.block.num) ∧
    (s'.block.ie = s.block.ie ∨ ∃ v, hostWrites 0x10 v ∧ s'.block.ie = v.getLsbD 0) ∧
    (s'.block.opr = s.block.opr ∨ s.block.state = .idle ∧
      ∃ w i, hostWrites 0x00 w ∧ decode w = .ok i ∧ s'.block.opr = opcode i) ∧
    (s'.block.fields = s.block.fields ∨
      s.block.state = .ext ∧ s'.block.fields = pack (extract s.block.unscr)) ∧
    (s'.block.temp = s.block.temp ∨ s.block.state = .load ∧ s'.block.temp = s.block.unscr ∨
      s.block.state = .red ∧ s'.block.temp = redStep s.block.temp s.block.iter.toNat) ∧
    (s'.block.iter = s.block.iter ∨ s.block.state = .load ∧ s'.block.iter = 0 ∨
      s.block.state = .red ∧ s'.block.iter = s.block.iter + 1)

/-- R41, first sentence: no host access writes ITER, TEMP or FIELDS, and none writes OPR or STATE directly:
the one access that changes them is the write of a legal command word to CTRL in IDLE, which issues the
command. -/
def Obligations.HostCannotWriteInternals : Prop :=
  ∀ (a : Access) (s t : State), hostAccess a s = .next t →
    t.block.iter = s.block.iter ∧ t.block.temp = s.block.temp ∧ t.block.fields = s.block.fields ∧
    (¬(s.block.state = .idle ∧ ∃ p w i,
        a = .write p 8 w ∧ placeOffset p = some 0x00 ∧ decode w = .ok i) →
      t.block.opr = s.block.opr ∧ t.block.state = s.block.state)

/-- R195 (the spec derives its last sentence): while a command runs, no interleaving of host accesses
changes what the sequencer computes. Any slots without reset, of which the last has a sequencer edge,
lead the command's view to where the same number of sequencer steps alone leads it. The slots are the
model's form of the interleaving (log entry 1). -/
def Obligations.ResultIsIndependentOfHostAccesses : Prop :=
  ∀ (s : State) (ts : List Tick) (last : Tick) (rest : List Tick),
    s.inputs = ts ++ last :: rest →
    (∀ t ∈ ts, t.rst = false) → last.rst = false → last.seq = true →
    (∀ j, j ≤ ts.countP (fun t => t.seq) → (seqRun j s.block).state ≠ .idle) →
    ∃ s' : State, Sys2Proof.core.run (ts.length + 1) s = .next s' ∧ s'.inputs = rest ∧
      commandView s'.block = commandView (seqRun (ts.countP (fun t => t.seq) + 1) s.block)

/-- The invariant of Safety.lean holds after reset (R40). -/
def Obligations.ResetMeetsTheInvariant : Prop := State.reset.Inv

/-- Every step keeps the invariant of Safety.lean: the legal values of the fields (R22, R28, R221), the
path of each command through the sequencer, the flags and the data of a running command. -/
def Obligations.EveryStepKeepsTheInvariant : Prop :=
  ∀ s s' : State, s.Inv → step s = .next s' → s'.Inv

/-- R193 (the spec derives it): from every block that meets the invariant, and so from every block a run
reaches, the sequencer is back in IDLE with DONE = 1 within 49 steps if a command runs. -/
def Obligations.EveryCommandCompletes : Prop :=
  ∀ b : Block, b.Inv → b.state ≠ .idle →
    ∃ n, n ≤ 49 ∧ (seqRun n b).state = .idle ∧ (seqRun n b).done = true

/-! ## The descrambler -/

/-- R110, R119, R121: descramble is the composition of the eight steps, written out as the rules write
them; steps 5 and 6 are the subject of statements of their own. -/
def Obligations.DescrambleIsTheEightSteps : Prop :=
  ∀ x : Word,
    let v1 := x &&& 0x1FFFFFFFFFFFFF
    let v2 := (v1 ^^^ 0x5E5E5E5E5E5E) &&& 0x1FFFFFFFFFFFFF
    let mix := (v2 <<< 5) &&& 0x20
    let v4 := (v2 ||| (mix <<< 48)) >>> 1
    let v6 := substituteNibbles (permuteBytes v4)
    let hi32 := v6 >>> 32
    let a := (v6 >>> 22) ||| ((hi32 &&& 0x7FF) <<< 10)
    let b := (v6 * 0x400) ||| ((hi32 >>> 11) &&& 0x3FF)
    let r7 := (a <<< 32) ||| b
    descramble x = r7 ^^^ 0xB3B3B3B3B3B3

/-- R115 (the spec derives it): steps 3 and 4 rotate right by one within 53 bits. -/
def Obligations.StepsThreeAndFourRotate : Prop :=
  ∀ v2 : Word, v2.toNat < 2 ^ 53 →
    reinsertBit v2 (isolateBit v2) = (v2 >>> 1) ||| ((v2 &&& 1) <<< 52) ∧
    (reinsertBit v2 (isolateBit v2)).toNat < 2 ^ 53

/-- R116: the six bytes of step 5 written out, and bits 63:48 kept. -/
def Obligations.BytePermutationLanes : Prop :=
  ∀ v4 : Word,
    byteOf (permuteBytes v4) 0 = byteOf v4 1 ∧ byteOf (permuteBytes v4) 1 = byteOf v4 5 ∧
    byteOf (permuteBytes v4) 2 = byteOf v4 0 ∧ byteOf (permuteBytes v4) 3 = byteOf v4 4 ∧
    byteOf (permuteBytes v4) 4 = byteOf v4 2 ∧ byteOf (permuteBytes v4) 5 = byteOf v4 3 ∧
    (permuteBytes v4).extractLsb' 48 16 = v4.extractLsb' 48 16

/-- R117: each of the six low bytes goes through S nibble by nibble, bits 63:48 are kept, and S is the
table of R6. -/
def Obligations.NibbleSubstitutionLanes : Prop :=
  (List.range 16).map (fun n => subst (BitVec.ofNat 4 n)) =
    [0xD, 0x5, 0x9, 0x7, 0x0, 0xF, 0xA, 0x2, 0xC, 0x3, 0xE, 0x1, 0x8, 0x6, 0xB, 0x4] ∧
  ∀ v5 : Word,
    (∀ i, i < 6 →
      nibHi (byteOf (substituteNibbles v5) i) = subst (nibHi (byteOf v5 i)) ∧
      nibLo (byteOf (substituteNibbles v5) i) = subst (nibLo (byteOf v5 i))) ∧
    (substituteNibbles v5).extractLsb' 48 16 = v5.extractLsb' 48 16

/-- R118 and R120 (the spec derives them): v6 stays below 2^53, so the literal multiply and reshuffle of
step 7 are `(v6 << 10) | (v6 >> 43)` on every value descramble reaches. -/
def Obligations.StepSevenRotates : Prop :=
  ∀ x : Word, (dscV6 x).toNat < 2 ^ 53 ∧ dscV6 x * 0x400 = dscV6 x <<< 10 ∧
    reshuffleA (dscV6 x) = dscV6 x >>> 22 ∧
    reshuffle (dscV6 x) = (dscV6 x <<< 10) ||| (dscV6 x >>> 43)

/-- R122 (the spec derives it): bit 63 of the output is 0, bits 62:53 are bits 52:43 of v6, and the low 53
bits are v6 rotated left by ten and masked. -/
def Obligations.DescrambleOutputShape : Prop :=
  ∀ x : Word, (descramble x).getLsbD 63 = false ∧
    (descramble x).extractLsb' 53 10 = (dscV6 x).extractLsb' 43 10 ∧
    descramble x &&& 0x1FFFFFFFFFFFFF =
      ((((dscV6 x <<< 10) ||| (dscV6 x >>> 43)) &&& 0x1FFFFFFFFFFFFF) ^^^ 0xB3B3B3B3B3B3)

/-- R126 and R127 (the spec derives them): descramble reads only the low 53 bits of its argument, and
distinct 53-bit arguments give results that differ in their low 53 bits. -/
def Obligations.DescrambleIsInjectiveOn53Bits : Prop :=
  (∀ x y : Word, x &&& 0x1FFFFFFFFFFFFF = y &&& 0x1FFFFFFFFFFFFF → descramble x = descramble y) ∧
  (∀ x y : Word,
    descramble x &&& 0x1FFFFFFFFFFFFF = descramble y &&& 0x1FFFFFFFFFFFFF →
    x &&& 0x1FFFFFFFFFFFFF = y &&& 0x1FFFFFFFFFFFFF)

/-! ## The field extractor -/

/-- R140: the four fields are the slices of the table. -/
def Obligations.ExtractSlices : Prop :=
  ∀ u : Word, (extract u).entityId = u.extractLsb' 15 32 ∧
    (extract u).generationCount = u.extractLsb' 10 5 ∧
    (extract u).hardwareModel = u.extractLsb' 47 3 ∧ (extract u).areaCode = u.extractLsb' 50 3

/-- R141: each field at its place in FIELDS, and all other bits 0. -/
def Obligations.PackLayout : Prop :=
  ∀ f : Identity, (pack f).extractLsb' 0 32 = f.entityId ∧
    (pack f).extractLsb' 32 5 = f.generationCount ∧ (pack f).extractLsb' 40 3 = f.hardwareModel ∧
    (pack f).extractLsb' 48 3 = f.areaCode ∧ pack f &&& ~~~0x0007071FFFFFFFFF = 0

/-- R142 and R143 (the spec derives them): the fields depend only on bits 52:10, and together they are
exactly those bits: two values have the same fields iff they agree there. -/
def Obligations.FieldsAreBits52To10 : Prop :=
  ∀ u v : Word, extract u = extract v ↔ u.extractLsb' 10 43 = v.extractLsb' 10 43

/-! ## The checksum -/

/-- R160, R161: one reduction iteration for every i it is defined for, the loop over them in ascending
order, and the acceptance test on the low byte. -/
def Obligations.ReductionLoop : Prop :=
  (∀ (temp : Word) (i : Nat), i ≤ 42 →
    redStep temp i =
      if temp.getLsbD (52 - i) = true then temp ^^^ (0x635 <<< (42 - i)) else temp) ∧
  (∀ u : Word, isChecksumValid u = decide
    (((List.range 43).foldl redStep u) &&& 0xFF = 0))

/-- R163 (the spec derives it), first two clauses, with R165: the reduction clears bits 52:10 and keeps
bits 63:53, and the verdict depends only on bits 52:0. -/
def Obligations.ReductionClearsTheDividend : Prop :=
  ∀ u : Word, (reduce u 43).extractLsb' 10 43 = 0 ∧
    (reduce u 43).extractLsb' 53 11 = u.extractLsb' 53 11 ∧
    isChecksumValid u = isChecksumValid (u &&& 0x1FFFFFFFFFFFFF)

/-- R166 (the spec derives it): the reduction is linear over GF(2), and a value passes iff its low byte is
that of the remainder of its bits 52:10. -/
def Obligations.ReductionIsLinear : Prop :=
  (∀ u v : Word, reduce (u ^^^ v) 43 = reduce u 43 ^^^ reduce v 43) ∧
  (∀ u : Word, isChecksumValid u = true ↔
    u.setWidth 8 = (reduce (u &&& 0x001FFFFFFFFFFC00) 43).setWidth 8)

/-- R167 (the spec derives it): of the 64 single-bit flips of a value that passes, exactly those of bits 8,
9 and 53..63 pass. -/
def Obligations.SingleBitFlips : Prop :=
  ∀ (u : Word) (k : Nat), k < 64 → isChecksumValid u = true →
    (isChecksumValid (u ^^^ (1 <<< k)) = true ↔ k = 8 ∨ k = 9 ∨ 53 ≤ k)

/-! ## The host assembly -/

/-- R97: the transaction and the effect of each host instruction, a label read as the line it stands at
(the model's choice, log entry 14). -/
def Obligations.HostInstructionEffects : Prop :=
  ∀ (program : List HostInstr) (h : HostCpu) (s : State) (i : HostInstr),
    program[h.line]? = some i →
    (∀ r imm, i = .st r imm → ∃ s' : State,
      hostAccess (.write (.offset (regOffset r)) 8 imm) s = .next s' ∧
      hostCpuStep program h s = .next (h.advance, s')) ∧
    (∀ rx r, i = .ld rx r → hostCpuStep program h s =
      .next ({ regs := h.regs.set rx (readReg r s.block), line := h.line + 1 },
             { s with response := some (.data (readReg r s.block)) })) ∧
    (∀ rx ry imm, i = .andi rx ry imm → hostCpuStep program h s =
      .next ({ regs := h.regs.set rx (h.regs.get ry &&& imm), line := h.line + 1 },
             { s with response := none })) ∧
    (∀ rx line, i = .bnez rx line → hostCpuStep program h s =
      .next ({ h with line := if h.regs.get rx = 0 then h.line + 1 else line },
             { s with response := none })) ∧
    (∀ rx line, i = .beqz rx line → hostCpuStep program h s =
      .next ({ h with line := if h.regs.get rx = 0 then line else h.line + 1 },
             { s with response := none }))

/-- R98: `wait`, wherever it stands in a program, goes round while BUSY = 1 and falls through with r7 = 0
when BUSY = 0, and leaves the block as it was (labels as lines, log entry 14). -/
def Obligations.WaitPollsUntilNotBusy : Prop :=
  ∀ (program : List HostInstr) (h : HostCpu) (s : State),
    program[h.line]? = some (.ld 7 .status) →
    program[h.line + 1]? = some (.andi 7 7 1) →
    program[h.line + 2]? = some (.bnez 7 h.line) →
    ∃ (h' : HostCpu) (s' : State),
      systemRun program [.host, .host, .host] h s = .next (h', s') ∧ s'.block = s.block ∧
      (s.block.state = .idle → h'.line = h.line + 3 ∧ h'.regs.get 7 = 0) ∧
      (s.block.state ≠ .idle → h'.line = h.line ∧ h'.regs.get 7 = 1)
end

