-- ==== Sys2Proof/Laws/State.lean ====
section
/-! SUPPORT. What each update of the machine and of the block leaves in each field: one lemma per field
per update, so that no later proof unfolds a record update. -/

namespace Sys2Proof.Machine

@[simp] theorem setBlock_block (s : State) (b : Block) : (s.setBlock b).block = b := rfl
@[simp] theorem setBlock_inputs (s : State) (b : Block) : (s.setBlock b).inputs = s.inputs := rfl
@[simp] theorem setBlock_response (s : State) (b : Block) : (s.setBlock b).response = s.response := rfl
@[simp] theorem setResponse_block (s : State) (r : Option Response) :
    (s.setResponse r).block = s.block := rfl
@[simp] theorem setResponse_inputs (s : State) (r : Option Response) :
    (s.setResponse r).inputs = s.inputs := rfl
@[simp] theorem setResponse_response (s : State) (r : Option Response) :
    (s.setResponse r).response = r := rfl
@[simp] theorem setInputs_block (s : State) (ts : List Tick) : (s.setInputs ts).block = s.block := rfl
@[simp] theorem setInputs_inputs (s : State) (ts : List Tick) : (s.setInputs ts).inputs = ts := rfl
@[simp] theorem setInputs_response (s : State) (ts : List Tick) :
    (s.setInputs ts).response = s.response := rfl
@[simp] theorem setBlock_self (s : State) : s.setBlock s.block = s := rfl
@[simp] theorem setBlock_setBlock (s : State) (b c : Block) :
    (s.setBlock b).setBlock c = s.setBlock c := rfl
@[simp] theorem setInputs_self (s : State) : s.setInputs s.inputs = s := rfl

/-! Recording and acknowledging an error (R222, R65). -/

@[simp] theorem recordErr_opr (c : ErrCode) (b : Block) : (recordErr c b).opr = b.opr := rfl
@[simp] theorem recordErr_state (c : ErrCode) (b : Block) : (recordErr c b).state = b.state := rfl
@[simp] theorem recordErr_iter (c : ErrCode) (b : Block) : (recordErr c b).iter = b.iter := rfl
@[simp] theorem recordErr_done (c : ErrCode) (b : Block) : (recordErr c b).done = b.done := rfl
@[simp] theorem recordErr_err (c : ErrCode) (b : Block) : (recordErr c b).err = true := rfl
@[simp] theorem recordErr_errc (c : ErrCode) (b : Block) : (recordErr c b).errc = if b.err then b.errc else c :=
  rfl
@[simp] theorem recordErr_lenOk (c : ErrCode) (b : Block) : (recordErr c b).lenOk = b.lenOk := rfl
@[simp] theorem recordErr_crcOk (c : ErrCode) (b : Block) : (recordErr c b).crcOk = b.crcOk := rfl
@[simp] theorem recordErr_black (c : ErrCode) (b : Block) : (recordErr c b).black = b.black := rfl
@[simp] theorem recordErr_valid (c : ErrCode) (b : Block) : (recordErr c b).valid = b.valid := rfl
@[simp] theorem recordErr_ie (c : ErrCode) (b : Block) : (recordErr c b).ie = b.ie := rfl
@[simp] theorem recordErr_num (c : ErrCode) (b : Block) : (recordErr c b).num = b.num := rfl
@[simp] theorem recordErr_digits (c : ErrCode) (b : Block) : (recordErr c b).digits = b.digits :=
  rfl
@[simp] theorem recordErr_unscr (c : ErrCode) (b : Block) : (recordErr c b).unscr = b.unscr := rfl
@[simp] theorem recordErr_temp (c : ErrCode) (b : Block) : (recordErr c b).temp = b.temp := rfl
@[simp] theorem recordErr_fields (c : ErrCode) (b : Block) : (recordErr c b).fields = b.fields :=
  rfl

/-! ILLEGAL_CMD (R224). -/

@[simp] theorem illegalCommand_opr (b : Block) : (illegalCommand b).opr = b.opr := rfl
@[simp] theorem illegalCommand_state (b : Block) : (illegalCommand b).state = b.state := rfl
@[simp] theorem illegalCommand_iter (b : Block) : (illegalCommand b).iter = b.iter := rfl
@[simp] theorem illegalCommand_done (b : Block) : (illegalCommand b).done = true := rfl
@[simp] theorem illegalCommand_err (b : Block) : (illegalCommand b).err = true := rfl
@[simp] theorem illegalCommand_errc (b : Block) : (illegalCommand b).errc = if b.err then b.errc else .illegalCmd :=
  rfl
@[simp] theorem illegalCommand_lenOk (b : Block) : (illegalCommand b).lenOk = b.lenOk := rfl
@[simp] theorem illegalCommand_crcOk (b : Block) : (illegalCommand b).crcOk = b.crcOk := rfl
@[simp] theorem illegalCommand_black (b : Block) : (illegalCommand b).black = b.black := rfl
@[simp] theorem illegalCommand_valid (b : Block) : (illegalCommand b).valid = b.valid := rfl
@[simp] theorem illegalCommand_ie (b : Block) : (illegalCommand b).ie = b.ie := rfl
@[simp] theorem illegalCommand_num (b : Block) : (illegalCommand b).num = b.num := rfl
@[simp] theorem illegalCommand_digits (b : Block) : (illegalCommand b).digits = b.digits := rfl
@[simp] theorem illegalCommand_unscr (b : Block) : (illegalCommand b).unscr = b.unscr := rfl
@[simp] theorem illegalCommand_temp (b : Block) : (illegalCommand b).temp = b.temp := rfl
@[simp] theorem illegalCommand_fields (b : Block) : (illegalCommand b).fields = b.fields := rfl

/-! BUSY_WRITE (R225). -/

@[simp] theorem busyWrite_opr (b : Block) : (busyWrite b).opr = b.opr := rfl
@[simp] theorem busyWrite_state (b : Block) : (busyWrite b).state = b.state := rfl
@[simp] theorem busyWrite_iter (b : Block) : (busyWrite b).iter = b.iter := rfl
@[simp] theorem busyWrite_done (b : Block) : (busyWrite b).done = b.done := rfl
@[simp] theorem busyWrite_err (b : Block) : (busyWrite b).err = true := rfl
@[simp] theorem busyWrite_errc (b : Block) : (busyWrite b).errc = if b.err then b.errc else .busyWrite :=
  rfl
@[simp] theorem busyWrite_lenOk (b : Block) : (busyWrite b).lenOk = b.lenOk := rfl
@[simp] theorem busyWrite_crcOk (b : Block) : (busyWrite b).crcOk = b.crcOk := rfl
@[simp] theorem busyWrite_black (b : Block) : (busyWrite b).black = b.black := rfl
@[simp] theorem busyWrite_valid (b : Block) : (busyWrite b).valid = b.valid := rfl
@[simp] theorem busyWrite_ie (b : Block) : (busyWrite b).ie = b.ie := rfl
@[simp] theorem busyWrite_num (b : Block) : (busyWrite b).num = b.num := rfl
@[simp] theorem busyWrite_digits (b : Block) : (busyWrite b).digits = b.digits := rfl
@[simp] theorem busyWrite_unscr (b : Block) : (busyWrite b).unscr = b.unscr := rfl
@[simp] theorem busyWrite_temp (b : Block) : (busyWrite b).temp = b.temp := rfl
@[simp] theorem busyWrite_fields (b : Block) : (busyWrite b).fields = b.fields := rfl

/-! A host write of STATUS (R65). -/

@[simp] theorem acknowledge_opr (v : Word) (b : Block) : (acknowledge v b).opr = b.opr := rfl
@[simp] theorem acknowledge_state (v : Word) (b : Block) : (acknowledge v b).state = b.state := rfl
@[simp] theorem acknowledge_iter (v : Word) (b : Block) : (acknowledge v b).iter = b.iter := rfl
@[simp] theorem acknowledge_done (v : Word) (b : Block) : (acknowledge v b).done = if v.getLsbD 1 then false else b.done :=
  rfl
@[simp] theorem acknowledge_err (v : Word) (b : Block) : (acknowledge v b).err = if v.getLsbD 2 then false else b.err :=
  rfl
@[simp] theorem acknowledge_errc (v : Word) (b : Block) : (acknowledge v b).errc = if v.getLsbD 2 then .noError else b.errc :=
  rfl
@[simp] theorem acknowledge_lenOk (v : Word) (b : Block) : (acknowledge v b).lenOk = b.lenOk := rfl
@[simp] theorem acknowledge_crcOk (v : Word) (b : Block) : (acknowledge v b).crcOk = b.crcOk := rfl
@[simp] theorem acknowledge_black (v : Word) (b : Block) : (acknowledge v b).black = b.black := rfl
@[simp] theorem acknowledge_valid (v : Word) (b : Block) : (acknowledge v b).valid = b.valid := rfl
@[simp] theorem acknowledge_ie (v : Word) (b : Block) : (acknowledge v b).ie = b.ie := rfl
@[simp] theorem acknowledge_num (v : Word) (b : Block) : (acknowledge v b).num = b.num := rfl
@[simp] theorem acknowledge_digits (v : Word) (b : Block) : (acknowledge v b).digits = b.digits :=
  rfl
@[simp] theorem acknowledge_unscr (v : Word) (b : Block) : (acknowledge v b).unscr = b.unscr := rfl
@[simp] theorem acknowledge_temp (v : Word) (b : Block) : (acknowledge v b).temp = b.temp := rfl
@[simp] theorem acknowledge_fields (v : Word) (b : Block) : (acknowledge v b).fields = b.fields :=
  rfl

/-! Completion (R182). -/

@[simp] theorem finish_opr (b : Block) : (finish b).opr = b.opr := rfl
@[simp] theorem finish_state (b : Block) : (finish b).state = .idle := rfl
@[simp] theorem finish_iter (b : Block) : (finish b).iter = b.iter := rfl
@[simp] theorem finish_done (b : Block) : (finish b).done = true := rfl
@[simp] theorem finish_err (b : Block) : (finish b).err = b.err := rfl
@[simp] theorem finish_errc (b : Block) : (finish b).errc = b.errc := rfl
@[simp] theorem finish_lenOk (b : Block) : (finish b).lenOk = b.lenOk := rfl
@[simp] theorem finish_crcOk (b : Block) : (finish b).crcOk = b.crcOk := rfl
@[simp] theorem finish_black (b : Block) : (finish b).black = b.black := rfl
@[simp] theorem finish_valid (b : Block) : (finish b).valid = b.valid := rfl
@[simp] theorem finish_ie (b : Block) : (finish b).ie = b.ie := rfl
@[simp] theorem finish_num (b : Block) : (finish b).num = b.num := rfl
@[simp] theorem finish_digits (b : Block) : (finish b).digits = b.digits := rfl
@[simp] theorem finish_unscr (b : Block) : (finish b).unscr = b.unscr := rfl
@[simp] theorem finish_temp (b : Block) : (finish b).temp = b.temp := rfl
@[simp] theorem finish_fields (b : Block) : (finish b).fields = b.fields := rfl

/-! Acceptance (R183, R189). -/

@[simp] theorem acceptNop_opr (b : Block) : (acceptNop b).opr = 0 := rfl
@[simp] theorem acceptNop_state (b : Block) : (acceptNop b).state = b.state := rfl
@[simp] theorem acceptNop_iter (b : Block) : (acceptNop b).iter = b.iter := rfl
@[simp] theorem acceptNop_done (b : Block) : (acceptNop b).done = true := rfl
@[simp] theorem acceptNop_err (b : Block) : (acceptNop b).err = b.err := rfl
@[simp] theorem acceptNop_errc (b : Block) : (acceptNop b).errc = b.errc := rfl
@[simp] theorem acceptNop_lenOk (b : Block) : (acceptNop b).lenOk = b.lenOk := rfl
@[simp] theorem acceptNop_crcOk (b : Block) : (acceptNop b).crcOk = b.crcOk := rfl
@[simp] theorem acceptNop_black (b : Block) : (acceptNop b).black = b.black := rfl
@[simp] theorem acceptNop_valid (b : Block) : (acceptNop b).valid = b.valid := rfl
@[simp] theorem acceptNop_ie (b : Block) : (acceptNop b).ie = b.ie := rfl
@[simp] theorem acceptNop_num (b : Block) : (acceptNop b).num = b.num := rfl
@[simp] theorem acceptNop_digits (b : Block) : (acceptNop b).digits = b.digits := rfl
@[simp] theorem acceptNop_unscr (b : Block) : (acceptNop b).unscr = b.unscr := rfl
@[simp] theorem acceptNop_temp (b : Block) : (acceptNop b).temp = b.temp := rfl
@[simp] theorem acceptNop_fields (b : Block) : (acceptNop b).fields = b.fields := rfl
@[simp] theorem accept_opr (i : Instr) (f : SeqState) (b : Block) : (accept i f b).opr = opcode i :=
  by cases i <;> rfl
@[simp] theorem accept_state (i : Instr) (f : SeqState) (b : Block) : (accept i f b).state = f :=
  by cases i <;> rfl
@[simp] theorem accept_iter (i : Instr) (f : SeqState) (b : Block) : (accept i f b).iter = b.iter :=
  by cases i <;> rfl
@[simp] theorem accept_done (i : Instr) (f : SeqState) (b : Block) : (accept i f b).done = false :=
  by cases i <;> rfl
@[simp] theorem accept_err (i : Instr) (f : SeqState) (b : Block) : (accept i f b).err = b.err :=
  by cases i <;> rfl
@[simp] theorem accept_errc (i : Instr) (f : SeqState) (b : Block) : (accept i f b).errc = b.errc :=
  by cases i <;> rfl
@[simp] theorem accept_lenOk (i : Instr) (f : SeqState) (b : Block) : (accept i f b).lenOk = if i = .validate then false else b.lenOk :=
  by cases i <;> rfl
@[simp] theorem accept_crcOk (i : Instr) (f : SeqState) (b : Block) : (accept i f b).crcOk = if i = .validate ∨ i = .crc then false else b.crcOk :=
  by cases i <;> rfl
@[simp] theorem accept_black (i : Instr) (f : SeqState) (b : Block) : (accept i f b).black = if i = .validate then false else b.black :=
  by cases i <;> rfl
@[simp] theorem accept_valid (i : Instr) (f : SeqState) (b : Block) : (accept i f b).valid = if i = .validate then false else b.valid :=
  by cases i <;> rfl
@[simp] theorem accept_ie (i : Instr) (f : SeqState) (b : Block) : (accept i f b).ie = b.ie :=
  by cases i <;> rfl
@[simp] theorem accept_num (i : Instr) (f : SeqState) (b : Block) : (accept i f b).num = b.num :=
  by cases i <;> rfl
@[simp] theorem accept_digits (i : Instr) (f : SeqState) (b : Block) : (accept i f b).digits = b.digits :=
  by cases i <;> rfl
@[simp] theorem accept_unscr (i : Instr) (f : SeqState) (b : Block) : (accept i f b).unscr = b.unscr :=
  by cases i <;> rfl
@[simp] theorem accept_temp (i : Instr) (f : SeqState) (b : Block) : (accept i f b).temp = b.temp :=
  by cases i <;> rfl
@[simp] theorem accept_fields (i : Instr) (f : SeqState) (b : Block) : (accept i f b).fields = b.fields :=
  by cases i <;> rfl

/-! A host write of CFG (R65). -/

@[simp] theorem writeCfg_opr (v : Word) (b : Block) : (writeCfg v b).opr = b.opr := rfl
@[simp] theorem writeCfg_state (v : Word) (b : Block) : (writeCfg v b).state = b.state := rfl
@[simp] theorem writeCfg_iter (v : Word) (b : Block) : (writeCfg v b).iter = b.iter := rfl
@[simp] theorem writeCfg_done (v : Word) (b : Block) : (writeCfg v b).done = b.done := rfl
@[simp] theorem writeCfg_err (v : Word) (b : Block) : (writeCfg v b).err = b.err := rfl
@[simp] theorem writeCfg_errc (v : Word) (b : Block) : (writeCfg v b).errc = b.errc := rfl
@[simp] theorem writeCfg_lenOk (v : Word) (b : Block) : (writeCfg v b).lenOk = b.lenOk := rfl
@[simp] theorem writeCfg_crcOk (v : Word) (b : Block) : (writeCfg v b).crcOk = b.crcOk := rfl
@[simp] theorem writeCfg_black (v : Word) (b : Block) : (writeCfg v b).black = b.black := rfl
@[simp] theorem writeCfg_valid (v : Word) (b : Block) : (writeCfg v b).valid = b.valid := rfl
@[simp] theorem writeCfg_ie (v : Word) (b : Block) : (writeCfg v b).ie = v.getLsbD 0 := rfl
@[simp] theorem writeCfg_num (v : Word) (b : Block) : (writeCfg v b).num = b.num := rfl
@[simp] theorem writeCfg_digits (v : Word) (b : Block) : (writeCfg v b).digits = b.digits := rfl
@[simp] theorem writeCfg_unscr (v : Word) (b : Block) : (writeCfg v b).unscr = b.unscr := rfl
@[simp] theorem writeCfg_temp (v : Word) (b : Block) : (writeCfg v b).temp = b.temp := rfl
@[simp] theorem writeCfg_fields (v : Word) (b : Block) : (writeCfg v b).fields = b.fields := rfl

end Sys2Proof.Machine
end

