-- ==== Sys2Proof/Laws/Ops.lean ====
section
/-! SUPPORT. What each shared operation can do, said once: acceptance, the sequencer step, a host access,
a clock slot and a step. -/

namespace Sys2Proof.Machine

@[simp] theorem busy_eq_false {b : Block} : busy b = false ↔ b.state = .idle := by
  simp [busy]

@[simp] theorem busy_eq_true {b : Block} : busy b = true ↔ b.state ≠ .idle := by
  simp [busy]

theorem protect_idle {b : Block} (f : Block → Block) (h : b.state = .idle) : protect f b = f b := by
  simp [protect, busy, h]

theorem protect_busy {b : Block} (f : Block → Block) (h : b.state ≠ .idle) :
    protect f b = busyWrite b := by
  simp [protect, busy, h]

/-- What acceptance of a command does to the block (R183, R184, R189). -/
def acceptance : Instr → Block → Block
  | .nop => acceptNop
  | .descr => accept .descr .dsc
  | .extr => accept .extr .ext
  | .decode => accept .decode .dsc
  | .crc => accept .crc .load
  | .validate => accept .validate .gate

/-- exec is CtrlWrite of a legal word: acceptance while idle, BUSY_WRITE while busy (R183). -/
theorem exec_eq (i : Instr) (s : State) :
    exec i s = .next (s.setBlock (protect (acceptance i) s.block)) := by
  cases i <;> rfl

theorem exec_idle (i : Instr) {s : State} (h : s.block.state = .idle) :
    exec i s = .next (s.setBlock (acceptance i s.block)) := by
  rw [exec_eq, protect_idle _ h]

theorem exec_busy (i : Instr) {s : State} (h : s.block.state ≠ .idle) :
    exec i s = .next (s.setBlock (busyWrite s.block)) := by
  rw [exec_eq, protect_busy _ h]

/-- What a write of CTRL leaves in the block, whatever the word (R183). -/
def ctrlEffect (w : Word) : Block → Block :=
  match decode w with
  | .ok i => acceptance i
  | .error _ => illegalCommand

theorem ctrlWrite_eq (w : Word) (s : State) :
    ctrlWrite w s = .next (s.setBlock (protect (ctrlEffect w) s.block)) := by
  unfold ctrlWrite ctrlEffect
  cases decode w with
  | ok i => exact exec_eq i s
  | error e => rfl

/-- What a performed write leaves in the block (R65). -/
def writeEffect (r : Reg) (v : Word) (b : Block) : Block :=
  match r with
  | .ctrl => protect (ctrlEffect v) b
  | .status => acknowledge v b
  | .cfg => writeCfg v b
  | .num => writeNum v b
  | .digits => writeDigits v b
  | .unscr => writeUnscr v b
  | .temp => b
  | .fields => b

theorem writeReg_eq (r : Reg) (v : Word) (s : State) :
    writeReg r v s = .next (s.setBlock (writeEffect r v s.block)) := by
  cases r <;> first | exact ctrlWrite_eq v s | rfl

/-- The three things a host access can do: not reach the block, get a BusError, or be performed at a
register, as a read that changes no block state or as a write (R60, R62, R64, R65). -/
theorem hostAccess_cases (a : Access) (s : State) :
    (placeOffset (accessPlace a) = none ∧ hostAccess a s = .next (s.setResponse none)) ∨
    (∃ off, placeOffset (accessPlace a) = some off ∧ accessReg off (accessBytes a) = none ∧
      hostAccess a s = .next (s.setResponse (some (busErrorResponse off a)))) ∨
    (∃ off r, placeOffset (accessPlace a) = some off ∧ accessReg off (accessBytes a) = some r ∧
      ((∃ p n, a = .read p n ∧
          hostAccess a s = .next (s.setResponse (some (.data (readReg r s.block))))) ∨
       (∃ p n v, a = .write p n v ∧
          hostAccess a s =
            .next ((s.setResponse (some .done)).setBlock (writeEffect r v s.block))))) := by
  unfold hostAccess
  cases hp : placeOffset (accessPlace a) with
  | none => exact .inl ⟨rfl, rfl⟩
  | some off =>
    cases hr : accessReg off (accessBytes a) with
    | none => exact .inr (.inl ⟨off, rfl, hr, by simp [hr]⟩)
    | some r =>
      refine .inr (.inr ⟨off, r, rfl, hr, ?_⟩)
      cases a with
      | read p n => exact .inl ⟨p, n, rfl, by simp [hr, performAccess]⟩
      | write p n v => exact .inr ⟨p, n, v, rfl, by simp [hr, performAccess, writeReg_eq]⟩

/-- A host access always answers a next state, with the inputs as they were. -/
theorem hostAccess_next (a : Access) (s : State) :
    ∃ s', hostAccess a s = .next s' ∧ s'.inputs = s.inputs := by
  rcases hostAccess_cases a s with ⟨-, h⟩ | ⟨off, -, -, h⟩ | ⟨off, r, -, -, ⟨p, n, -, h⟩ | ⟨p, n, v, -, h⟩⟩ <;>
    exact ⟨_, h, rfl⟩

theorem slotAccess_next (a : Option Access) (s : State) :
    ∃ s', slotAccess a s = .next s' ∧ s'.inputs = s.inputs := by
  cases a with
  | none => exact ⟨_, rfl, rfl⟩
  | some a => exact hostAccess_next a s

/-- The two things a clock slot can do: reset the block, or run its access and then its sequencer part
(R68, R250). -/
theorem tick_cases (t : Tick) (s : State) :
    (t.rst = true ∧
      tick t s = .next ((s.setBlock Block.reset).setResponse (slotResetResponse t.access))) ∨
    (t.rst = false ∧ ∃ s', slotAccess t.access s = .next s' ∧ s'.inputs = s.inputs ∧
      tick t s = .next (slotSequencer (t.seq && busy s.block) s')) := by
  cases hr : t.rst with
  | true => exact .inl ⟨rfl, by simp [tick, hr]⟩
  | false =>
    obtain ⟨s', h, hi⟩ := slotAccess_next t.access s
    exact .inr ⟨rfl, s', h, hi, by simp [tick, hr, h]⟩

theorem step_nil {s : State} (h : s.inputs = []) : step s = tick quietTick (s.setInputs []) := by
  simp [step, nextInput, h]

theorem step_cons {s : State} {t : Tick} {rest : List Tick} (h : s.inputs = t :: rest) :
    step s = tick t (s.setInputs rest) := by
  simp [step, nextInput, h]

/-- The sequencer step by the state in STATE (R180). -/
theorem seqStep_of_state (b : Block) : seqStep b =
    match b.state with
    | .idle => b
    | .gate => gateStep b
    | .dsc => dscStep b
    | .ext => extStep b
    | .load => loadStep b
    | .red => redState b
    | .chk => chkStep b
    | .bl => blStep b := rfl

theorem seqStep_idle {b : Block} (h : b.state = .idle) : seqStep b = b := by simp [seqStep, h]
theorem seqStep_gate {b : Block} (h : b.state = .gate) : seqStep b = gateStep b := by simp [seqStep, h]
theorem seqStep_dsc {b : Block} (h : b.state = .dsc) : seqStep b = dscStep b := by simp [seqStep, h]
theorem seqStep_ext {b : Block} (h : b.state = .ext) : seqStep b = extStep b := by simp [seqStep, h]
theorem seqStep_load {b : Block} (h : b.state = .load) : seqStep b = loadStep b := by simp [seqStep, h]
theorem seqStep_red {b : Block} (h : b.state = .red) : seqStep b = redState b := by simp [seqStep, h]
theorem seqStep_chk {b : Block} (h : b.state = .chk) : seqStep b = chkStep b := by simp [seqStep, h]
theorem seqStep_bl {b : Block} (h : b.state = .bl) : seqStep b = blStep b := by simp [seqStep, h]

/-- The sequencer never touches what only the host writes, nor the error record (R26, R31, R33, R34), nor
OPR (R21). -/
theorem seqStep_keeps (b : Block) :
    (seqStep b).opr = b.opr ∧ (seqStep b).err = b.err ∧ (seqStep b).errc = b.errc ∧
    (seqStep b).ie = b.ie ∧ (seqStep b).num = b.num ∧ (seqStep b).digits = b.digits := by
  cases h : b.state <;>
    simp only [seqStep, h, gateStep, dscStep, extStep, loadStep, redState, chkStep, blStep] <;>
    (try split) <;> simp

@[simp] theorem seqRun_zero (b : Block) : seqRun 0 b = b := rfl

theorem seqRun_succ (n : Nat) (b : Block) : seqRun (n + 1) b = seqRun n (seqStep b) := rfl

/-- Sequencer steps add up. -/
theorem seqRun_add (m n : Nat) (b : Block) : seqRun (m + n) b = seqRun n (seqRun m b) := by
  induction m generalizing b with
  | zero => simp
  | succ m ih => rw [Nat.succ_add, seqRun_succ, seqRun_succ, ih]

/-- IDLE stays IDLE under sequencer steps (R186). -/
theorem seqRun_idle {b : Block} (h : b.state = .idle) (n : Nat) : seqRun n b = b := by
  induction n with
  | zero => rfl
  | succ n ih => rw [seqRun_succ, seqStep_idle h, ih]

@[simp] theorem reduce_zero (u : Word) : reduce u 0 = u := rfl

theorem reduce_succ (u : Word) (k : Nat) : reduce u (k + 1) = redStep (reduce u k) k := rfl

/-- The iteration inside its range (R161). -/
theorem redStep_of_lt (temp : Word) {i : Nat} (h : i < crcIters) : redStep temp i =
    if temp.getLsbD (52 - i) then temp ^^^ (genPoly <<< (42 - i)) else temp := by
  simp [redStep, h]

/-- The slot's sequencer part is one sequencer step where the slot has an edge and the block was busy,
and nothing otherwise. -/
theorem slotSequencer_block (e : Bool) (s : State) :
    (slotSequencer e s).block = if e then seqStep s.block else s.block := by
  cases e <;> rfl

theorem slotSequencer_inputs (e : Bool) (s : State) : (slotSequencer e s).inputs = s.inputs := by
  cases e <;> rfl

end Sys2Proof.Machine
end

