-- ==== Sys2Proof/Laws/PerInstr.lean ====
section
/-! SUPPORT. Facts about each command as syntax: it is well formed, its word is legal, and decoding its
word gives it back (R93, R94, R96). -/

namespace Sys2Proof.Laws.Encoding

def Statement (i : Instr) : Prop :=
  i.wf = true ∧ legal (encode i) = true ∧ decode (encode i) = .ok i

theorem nop : Statement .nop := by unfold Statement; decide
theorem descr : Statement .descr := by unfold Statement; decide
theorem extr : Statement .extr := by unfold Statement; decide
theorem decode : Statement .decode := by unfold Statement; decide
theorem crc : Statement .crc := by unfold Statement; decide
theorem validate : Statement .validate := by unfold Statement; decide

end Sys2Proof.Laws.Encoding
end

