-- ==== Sys2Proof/Tests/Slice0.lean ====
section
/-! SUPPORT. The model's own tests, on values that spec/95_test_vectors.md or a rule states, and the
witnesses that the hypotheses of each statement can be met. -/

namespace Sys2Proof.Tests

open Sys2Proof.Machine

/-! ## Helpers -/

/-- The reset block with a command in a sequencer state. -/
def blockIn (i : Instr) (st : SeqState) : Block := { Block.reset with opr := opcode i, state := st }

/-- A machine with a block, some inputs and nothing answered. -/
def machine (b : Block) (ts : List Tick) : State := { block := b, inputs := ts, response := none }

/-- The block an outcome leaves. -/
def blockOf : Host.Outcome State Fault Refusal → Option Block
  | .next s => some s.block
  | .fault _ => none
  | .refused _ => none

/-- The answer an outcome leaves. -/
def answerOf : Host.Outcome State Fault Refusal → Option Response
  | .next s => s.response
  | .fault _ => none
  | .refused _ => none

/-- STATUS after an outcome. -/
def statusOf (o : Host.Outcome State Fault Refusal) : Option Word := (blockOf o).map statusWord

/-- A write of a register, no sequencer edge. -/
def st (r : Reg) (v : Word) : Access := .write (.offset (regOffset r)) 8 v

/-! ## Ill-formed words and accesses are refused -/

/-- R94: RSVD must be 0 (V-ERR-2). -/
theorem test_wf_reserved_field : reservedIsZero 0x10 = false ∧ legal 0x10 = false := by decide

/-- R94: OP 6 is reserved (V-ERR-1). -/
theorem test_wf_reserved_opcode : opcodeIsAssigned 0x6 = false ∧ legal 0x6 = false := by decide

/-- R94: the highest legal word. -/
theorem test_wf_validate_word : legal 0x5 = true := by decide

/-- R62: size, alignment and range, each broken alone, and the last legal access. -/
theorem test_access_checks :
    accessReg 0x08 4 = none ∧ accessReg 0x0C 8 = none ∧ accessReg 0x40 8 = none ∧
    accessReg 0x38 8 = some .fields := by decide

/-! ## Decoding, each word written out from its row: sixty zeros, then the four OP bits (R91, R93) -/

theorem test_decode_nop :
    decode 0b0000000000000000000000000000000000000000000000000000000000000000 = .ok .nop := by decide
theorem test_decode_descr :
    decode 0b0000000000000000000000000000000000000000000000000000000000000001 = .ok .descr := by decide
theorem test_decode_extr :
    decode 0b0000000000000000000000000000000000000000000000000000000000000010 = .ok .extr := by decide
theorem test_decode_decode :
    decode 0b0000000000000000000000000000000000000000000000000000000000000011 = .ok .decode := by decide
theorem test_decode_crc :
    decode 0b0000000000000000000000000000000000000000000000000000000000000100 = .ok .crc := by decide
theorem test_decode_validate :
    decode 0b0000000000000000000000000000000000000000000000000000000000000101 = .ok .validate := by decide

/-- R94: OP 6 and 15 are reserved opcodes, 0x15 has a reserved bit set (V-ERR-1, V-ERR-3, V-ERR-9). -/
theorem test_decode_illegal :
    decode 0x6 = .error .reservedOpcode ∧ decode 0xF = .error .reservedOpcode ∧
    decode 0x15 = .error .reservedField ∧ decode 0x8000000000000000 = .error .reservedField := by decide

/-- R63: the word on its lanes, lane 0 first. -/
theorem test_lanes : busLanes 0x0706050403020100 = [0, 1, 2, 3, 4, 5, 6, 7] ∧
    decodeTableWord 64 5 = some .validate ∧ decodeTableWord 64 6 = none := by decide

/-! ## The commands -/

/-- V-ORC-15: from reset `st CTRL, 0` gives STATUS = 0x2. -/
theorem test_nop : statusOf (step (State.reset.withFetchWord 64 0)) = some 0x2 := by decide

/-- V-DSC-11: DESCR accepted from reset, CTRL then reads 1. -/
theorem test_descr_accepted : (blockOf (step (State.reset.withFetchWord 64 1))).map (readReg .ctrl) =
    some 0x1 := by decide

/-- V-DSC-5: the intermediates and the result. -/
theorem test_descr_network :
    dscV2 0x001EAC9312CB15E4 = 0x001EF2CD4C954BBA ∧ dscV4 0x001EAC9312CB15E4 = 0x000F7966A64AA5DD ∧
    permuteBytes 0x000F7966A64AA5DD = 0x000FA64A66DD79A5 ∧
    dscV6 0x001EAC9312CB15E4 = 0x000FEA0EAA6623EF ∧
    reshuffleB 0x000FEA0EAA6623EF = 0x3FA83AA9988FBDFD ∧
    descramble 0x001EAC9312CB15E4 = 0x3FA8891A2B3C0E4E := by decide

/-- V-FEX-1 and V-FEX-8. -/
theorem test_extr_pack : pack (extract 0xFFFFFFFFFFFFFFFF) = 0x0007071FFFFFFFFF ∧
    pack (extract 0x0252E1E1E1E1E3A1) = 0x00040518C3C3C3C3 := by decide

/-- R144: state EXT finishes an EXTR (V-FEX-12: STATUS = 0x2). -/
theorem test_extr_finishes : statusWord (seqStep (blockIn .extr .ext)) = 0x2 := by decide

/-- R124: state DSC of a DECODE goes on to EXT with DONE still 0. -/
theorem test_decode_goes_on : (seqStep (blockIn .decode .dsc)).state = .ext ∧
    (seqStep (blockIn .decode .dsc)).done = false ∧
    (seqStep (blockIn .decode .dsc)).unscr = 0x0252E1E1E1E1E3A1 := by decide

/-- V-CRC-12, row i = 1: the first iteration that XORs. -/
theorem test_crc_iteration : redStep 0x3FA8891A2B3C0E4E 1 = 0x3FA4E31A2B3C0E4E := by decide

/-- V-CRC-8 and V-CRC-10: the final TEMP. -/
theorem test_crc_remainder : reduce 0x0010000000000000 43 = 0x89 ∧
    reduce 0xFFFFFFFFFFFFFFFF 43 = 0xFFE00000000002E2 := by decide +kernel

/-- V-ORC-3: the length gate fails on 17 digits and STATUS = 0x2. -/
theorem test_validate_length :
    statusWord (seqStep { blockIn .validate .gate with digits := 17 }) = 0x2 := by decide

/-- V-ORC-5: the blacklist gate with the sentinel's fields. -/
theorem test_validate_blacklist :
    (seqStep { blockIn .validate .bl with fields := 0x000000000403AC68 }).black = true ∧
    (seqStep { blockIn .validate .bl with fields := 0x000000000403AC68 }).valid = false := by decide

/-! ## Errors, bus, reset -/

/-- V-ERR-4: `st CTRL, 1` while VALIDATE is in DSC gives STATUS = 0x2000125 and leaves OPR. -/
theorem test_busy_write :
    statusOf (hostAccess (st .ctrl 1) (machine { blockIn .validate .dsc with lenOk := true } [])) =
      some 0x2000125 := by decide

/-- V-ERR-1: `st CTRL, 6` from reset gives STATUS = 0x16. -/
theorem test_illegal_command : statusOf (hostAccess (st .ctrl 6) State.reset) = some 0x16 := by decide

/-- V-ERR-10: of a write of all ones to STATUS only bits 1 and 2 act. -/
theorem test_acknowledge :
    statusWord (acknowledge 0xFFFFFFFFFFFFFFFF
      { Block.reset with
        valid := true, crcOk := true, lenOk := true, iter := 43, done := true, err := true,
        errc := .illegalCmd }) = 0x2B0B00 := by decide

/-- V-BIF-1: a 4-byte read gets a BusError with data 0. -/
theorem test_bus_error :
    answerOf (hostAccess (.read (.offset 0x08) 4) State.reset) =
      some (.busError 0x08 4 (some 0)) := by decide

/-- V-BIF-5: `st CFG, 0xFFFF` makes CFG read 1. -/
theorem test_cfg : (blockOf (hostAccess (st .cfg 0xFFFF) State.reset)).map (readReg .cfg) =
    some 1 := by decide

/-- V-RST-1: reset in the middle of a command leaves STATUS = 0. -/
theorem test_reset_aborts :
    statusOf (step (machine (blockIn .validate .dsc) [{ rst := true, access := none, seq := true }])) =
      some 0 := by decide

/-- The clock of 95_test_vectors.md section 2.5 with finish and W1C of DONE: STATUS = 0x2B0B02. -/
theorem test_finish_and_acknowledge :
    statusOf (step (machine
      { blockIn .validate .bl with lenOk := true, crcOk := true, iter := 43, fields := 0x2010312345678 }
      [{ rst := false, access := some (st .status 0x2), seq := true }])) = some 0x2B0B02 := by decide

/-- R261: a command accepted in a clock takes its first sequencer step in a later one. -/
theorem test_acceptance_clock :
    (blockOf (step (machine Block.reset
      [{ rst := false, access := some (st .ctrl 1), seq := true }]))).map (·.state) = some .dsc := by
  decide

/-- R98: `clr` acknowledges the error of V-ERR-1. -/
theorem test_host_clr :
    hostCpuStep pseudoClr HostCpu.start (machine (illegalCommand Block.reset) []) =
      .next (HostCpu.start.advance, { machine Block.reset [] with response := some .done }) := rfl

/-! ## Witnesses: the hypotheses of each statement can be met -/

/-- A machine in IDLE and one in the middle of a command, as the command statements ask for. -/
theorem witness_idle_and_busy :
    State.reset.block.state = .idle ∧ (machine (blockIn .validate .dsc) []).block.state ≠ .idle := by
  decide

/-- LegalWordsAreTheSixCommands, CtrlWriteBranches, IllegalCommandIsRecorded: the smallest reserved opcode
and the smallest word with RSVD set are illegal, the largest opcode is legal. -/
theorem witness_illegal_words :
    ¬((6 : Word).toNat / 16 = 0 ∧ (6 : Word).toNat % 16 ≤ 5) ∧
    ¬((16 : Word).toNat / 16 = 0 ∧ (16 : Word).toNat % 16 ≤ 5) ∧
    ((5 : Word).toNat / 16 = 0 ∧ (5 : Word).toNat % 16 ≤ 5) ∧
    (16 : Word) >>> 4 ≠ 0 ∧ 6 ≤ (6 : Word).toNat % 16 := by decide

/-- DecodeAndEncodeAgree. -/
theorem witness_DecodeAndEncodeAgree : Instr.wf .validate = true ∧ decode 5 = .ok .validate := by decide

/-- StepRunsTheDecodedCommand: a quiet slot, an idle block at a sequencer edge, a busy block at one. -/
theorem witness_StepRunsTheDecodedCommand :
    (machine Block.reset [{ rst := false, access := some (.write (.offset 0x00) 8 5), seq := true }]).inputs =
      { rst := false, access := some (.write (.offset 0x00) 8 5), seq := true } :: [] ∧
    decode 5 = .ok .validate ∧ Block.reset.state = .idle ∧ (blockIn .validate .dsc).state ≠ .idle := by
  decide

/-- StepPerformsTheSlotsAccess: a misaligned read in a slot without an edge, a write of STATUS at an edge
of an idle and of a busy block, and a stopped clock. -/
theorem witness_StepPerformsTheSlotsAccess :
    (machine Block.reset
      [{ rst := false, access := some (.read (.offset 0x0C) 8), seq := false }]).inputs =
      { rst := false, access := some (.read (.offset 0x0C) 8), seq := false } :: [] ∧
    (machine Block.reset [{ rst := false, access := some (st .status 6), seq := true }]).inputs =
      { rst := false, access := some (st .status 6), seq := true } :: [] ∧
    Block.reset.state = .idle ∧
    (machine (blockIn .crc .red) [{ rst := false, access := some (st .status 6), seq := true }]).inputs =
      { rst := false, access := some (st .status 6), seq := true } :: [] ∧
    (blockIn .crc .red).state ≠ .idle ∧
    (machine (blockIn .crc .red) [{ rst := false, access := none, seq := false }]).inputs =
      { rst := false, access := none, seq := false } :: [] := by decide

/-- QuietStepIsOneSequencerStep. -/
theorem witness_QuietStepIsOneSequencerStep :
    State.reset.inputs = [] ∧ Block.reset.state = .idle ∧
    (machine Block.reset [{ rst := false, access := none, seq := true }]).inputs =
      { rst := false, access := none, seq := true } :: [] := by decide

/-- FirstErrorKeepsItsCode. -/
theorem witness_FirstErrorKeepsItsCode :
    Block.reset.err = false ∧ (busyWrite Block.reset).err = true := by decide

/-- BusyWriteIsDropped: the first and the last protected offset. -/
theorem witness_BusyWriteIsDropped : (blockIn .crc .red).state ≠ .idle ∧
    0x00 ∈ [0x00, 0x18, 0x20, 0x28] ∧ 0x28 ∈ [0x00, 0x18, 0x20, 0x28] := by decide

/-- BadAccessGetsBusError: each side of the range, the alignment and the size. -/
theorem witness_BadAccessGetsBusError :
    ¬(8 = 8 ∧ 0x40 % 8 = 0 ∧ 0x40 < 0x40) ∧ ¬(8 = 8 ∧ 0x3F % 8 = 0 ∧ 0x3F < 0x40) ∧
    ¬(7 = 8 ∧ 0x38 % 8 = 0 ∧ 0x38 < 0x40) ∧ (8 = 8 ∧ 0x38 % 8 = 0 ∧ 0x38 < 0x40) := by decide

/-- WindowStandsAtBase: the last offset, and the first address past the window. -/
theorem witness_WindowStandsAtBase :
    0x3F < 0x40 ∧ (Config.base + 0x40 < Config.base ∨ Config.base + 0x40 ≤ Config.base + 0x40) :=
  ⟨by decide, .inr (Nat.le_refl _)⟩

/-- FinishBeatsAcknowledge: state BL in its last clock. -/
theorem witness_FinishBeatsAcknowledge :
    (machine (blockIn .validate .bl)
      [{ rst := false, access := some (.write (.offset 0x08) 8 2), seq := true }]).inputs =
      { rst := false, access := some (.write (.offset 0x08) 8 2), seq := true } :: [] ∧
    (blockIn .validate .bl).state ≠ .idle ∧ (seqStep (blockIn .validate .bl)).state = .idle := by decide

/-- ResetWinsOverEverything: a reset with a read at the last bus address of the window in its clock. -/
theorem witness_ResetWinsOverEverything_address :
    (machine (blockIn .crc .red)
      [{ rst := true, access := some (.read (.address (Config.base + 0x3F)) 8), seq := true }]).inputs =
      { rst := true, access := some (.read (.address (Config.base + 0x3F)) 8), seq := true } :: [] ∧
    0x3F < 0x40 := ⟨rfl, by decide⟩

/-- ResetWinsOverEverything: a reset with a misaligned read in its clock. -/
theorem witness_ResetWinsOverEverything :
    (machine (blockIn .crc .red)
      [{ rst := true, access := some (.read (.offset 0x0C) 8), seq := true }]).inputs =
      { rst := true, access := some (.read (.offset 0x0C) 8), seq := true } :: [] := by decide

/-- A machine in IDLE with VALIDATE's two inputs. -/
def staged (n d : Word) : State := machine { Block.reset with num := n, digits := d } []

/-- ValidateRunsTheGates: an idle machine for each exit path (V-ORC-3, V-ORC-6, V-ORC-5, V-ORC-4). -/
theorem witness_ValidateRunsTheGates :
    ((staged 1234567890123456 17).block.state = .idle ∧ (staged 1234567890123456 17).block.digits ≠ 16) ∧
    ((staged 1234567890123456 16).block.state = .idle ∧ (staged 1234567890123456 16).block.digits = 16 ∧
      isChecksumValid (descramble (staged 1234567890123456 16).block.num) = false) ∧
    ((staged 7294087504793114 16).block.state = .idle ∧ (staged 7294087504793114 16).block.digits = 16 ∧
      isChecksumValid (descramble (staged 7294087504793114 16).block.num) = true ∧
      (extract (descramble (staged 7294087504793114 16).block.num)).entityId = 0x0403AC68) ∧
    ((staged 8633996976788964 16).block.state = .idle ∧ (staged 8633996976788964 16).block.digits = 16 ∧
      isChecksumValid (descramble (staged 8633996976788964 16).block.num) = true ∧
      (extract (descramble (staged 8633996976788964 16).block.num)).entityId ≠ 0x0403AC68) := by
  decide +kernel

/-- ExecFrame: a command accepted and a command turned away. -/
theorem witness_ExecFrame :
    exec .descr State.reset = .next (State.reset.setBlock (accept .descr .dsc Block.reset)) ∧
    exec .descr (machine (blockIn .crc .red) []) =
      .next (machine (busyWrite (blockIn .crc .red)) []) := ⟨rfl, rfl⟩

/-- SequencerStateActions: a block for each clause. -/
theorem witness_SequencerStateActions :
    ({ blockIn .validate .gate with digits := 16 } : Block).state = .gate ∧
    ({ blockIn .validate .gate with digits := 16 } : Block).digits = 16 ∧
    ((blockIn .validate .gate).state = .gate ∧ (blockIn .validate .gate).digits ≠ 16) ∧
    ((blockIn .descr .dsc).state = .dsc ∧ (blockIn .descr .dsc).opr = 1) ∧
    ((blockIn .decode .dsc).state = .dsc ∧ (blockIn .decode .dsc).opr = 3) ∧
    ((blockIn .validate .ext).state = .ext ∧ (blockIn .validate .ext).opr = 5) ∧
    ((blockIn .extr .ext).state = .ext ∧ (blockIn .extr .ext).opr = 2) ∧
    (blockIn .crc .load).state = .load ∧
    ((blockIn .validate .chk).state = .chk ∧ (blockIn .validate .chk).opr = 5 ∧
      (blockIn .validate .chk).temp.setWidth 8 = (0 : Byte)) ∧
    ((blockIn .crc .chk).state = .chk ∧ (blockIn .crc .chk).opr ≠ 5) ∧
    ((blockIn .validate .chk).state = .chk ∧
      ({ blockIn .validate .chk with temp := 0x80 } : Block).temp.setWidth 8 ≠ (0 : Byte)) ∧
    (blockIn .validate .bl).state = .bl := by decide

/-- RedRunsTheReduction: a block for each clause, at the last value of its range. -/
theorem witness_RedRunsTheReduction :
    (({ blockIn .crc .red with iter := 41 } : Block).state = .red ∧
      ({ blockIn .crc .red with iter := 41 } : Block).iter < 42) ∧
    (({ blockIn .crc .red with iter := 42 } : Block).state = .red ∧
      ({ blockIn .crc .red with iter := 42 } : Block).iter = 42) ∧
    ((blockIn .crc .red).state = .red ∧ (blockIn .crc .red).iter = 0 ∧ 42 < 43) := by decide

/-- The statements over every step without reset (StateMovesAlongTheTable, DoneIsWrittenThreeWays,
ResultFlagsChangeAtTheirPoints, WhoWritesEachRegister): a step that accepts VALIDATE. -/
theorem witness_step_without_reset :
    (nextInput (State.reset.withFetchWord 64 5).inputs).1.rst = false ∧
    step (State.reset.withFetchWord 64 5) =
      .next (machine (accept .validate .gate Block.reset) [] |>.setResponse (some .done)) := ⟨rfl, rfl⟩

/-- ErrIsSticky: a step from a block with ERR set. -/
theorem witness_ErrIsSticky :
    (machine (busyWrite Block.reset) []).block.err = true ∧
    step (machine (busyWrite Block.reset) []) = .next (machine (busyWrite Block.reset) []) := ⟨rfl, rfl⟩

/-- HostCannotWriteInternals: a legal command word to CTRL while a command runs, an illegal one in IDLE, and
a write of TEMP in IDLE. -/
theorem witness_HostCannotWriteInternals :
    (hostAccess (st .ctrl 1) (machine (blockIn .crc .red) []) =
        .next ((machine (busyWrite (blockIn .crc .red)) []).setResponse (some .done)) ∧
      ¬((blockIn .crc .red).state = .idle ∧ ∃ p w i,
        st .ctrl 1 = .write p 8 w ∧ placeOffset p = some 0x00 ∧ decode w = .ok i)) ∧
    (hostAccess (st .ctrl 6) State.reset =
        .next ((machine (illegalCommand Block.reset) []).setResponse (some .done)) ∧
      ¬(State.reset.block.state = .idle ∧ ∃ p w i,
        st .ctrl 6 = .write p 8 w ∧ placeOffset p = some 0x00 ∧ decode w = .ok i)) ∧
    (hostAccess (st .temp 5) State.reset = .next (State.reset.setResponse (some .done)) ∧
      ¬(State.reset.block.state = .idle ∧ ∃ p w i,
        st .temp 5 = .write p 8 w ∧ placeOffset p = some 0x00 ∧ decode w = .ok i)) := by
  refine ⟨⟨rfl, fun h => absurd h.1 (by decide)⟩, ⟨rfl, ?_⟩, ⟨rfl, ?_⟩⟩
  · rintro ⟨-, p, w, i, hw, -, hd⟩
    cases hw
    exact absurd hd (by cases i <;> decide)
  · rintro ⟨-, p, w, i, hw, hp, -⟩
    cases hw
    exact absurd hp (by decide)

/-- ResultIsIndependentOfHostAccesses: a DECODE between whose two steps the host tries to write NUM. -/
theorem witness_ResultIsIndependentOfHostAccesses :
    let ts : List Tick := [quietTick, { rst := false, access := some (st .num 7), seq := false }]
    (machine (blockIn .decode .dsc) (ts ++ quietTick :: [])).inputs = ts ++ quietTick :: [] ∧
    (∀ t ∈ ts, t.rst = false) ∧ quietTick.rst = false ∧ quietTick.seq = true ∧
    ts.countP (fun t => t.seq) = 1 ∧ (seqRun 0 (blockIn .decode .dsc)).state ≠ .idle ∧
    (seqRun 1 (blockIn .decode .dsc)).state ≠ .idle := by decide

/-- EveryStepKeepsTheInvariant, EveryCommandCompletes: a running DESCR meets the invariant. -/
theorem witness_invariant : (blockIn .descr .dsc).Inv ∧ (blockIn .descr .dsc).state ≠ .idle ∧
    step (machine (blockIn .descr .dsc) []) =
      .next (machine (seqStep (blockIn .descr .dsc)) []) :=
  ⟨⟨by decide, by decide, by decide, by decide, by decide, by decide, by decide⟩, by decide, rfl⟩

/-- StepsThreeAndFourRotate: the largest 53-bit value. -/
theorem witness_StepsThreeAndFourRotate : (0x1FFFFFFFFFFFFF : Word).toNat < 2 ^ 53 := by decide

/-- DescrambleIsInjectiveOn53Bits: the aliasing pair V-DSC-1 and V-DSC-8. -/
theorem witness_DescrambleIsInjectiveOn53Bits :
    (0 : Word) &&& 0x1FFFFFFFFFFFFF = 0x0020000000000000 &&& 0x1FFFFFFFFFFFFF ∧
    descramble 0 &&& 0x1FFFFFFFFFFFFF = descramble 0x0020000000000000 &&& 0x1FFFFFFFFFFFFF := by decide

/-- ReductionLoop, SingleBitFlips: the ends of their ranges, and a value that passes. -/
theorem witness_checksum : 0 ≤ 42 ∧ 42 ≤ 42 ∧ 63 < 64 ∧ isChecksumValid 0x635 = true := by decide +kernel

/-- HostInstructionEffects: a line for each instruction. -/
theorem witness_HostInstructionEffects :
    let program : List HostInstr :=
      [.st .cfg 1, .ld 1 .status, .andi 2 1 4, .bnez 2 0, .beqz 2 0]
    program[0]? = some (.st .cfg 1) ∧ program[1]? = some (.ld 1 .status) ∧
    program[2]? = some (.andi 2 1 4) ∧ program[3]? = some (.bnez 2 0) ∧
    program[4]? = some (.beqz 2 0) := by decide

/-- WaitPollsUntilNotBusy: `wait` at the first line of a program. -/
theorem witness_WaitPollsUntilNotBusy :
    (pseudoWait 0)[HostCpu.start.line]? = some (.ld 7 .status) ∧
    (pseudoWait 0)[HostCpu.start.line + 1]? = some (.andi 7 7 1) ∧
    (pseudoWait 0)[HostCpu.start.line + 2]? = some (.bnez 7 HostCpu.start.line) := by decide

end Sys2Proof.Tests
end

section
/-! The record after reset (R40): its fields, and what the host reads from it. -/

namespace Sys2Proof.Machine

@[simp] theorem State.reset_block : State.reset.block = Block.reset := rfl

/-- Every STATUS field of the reset record is 0, the encodings of IDLE and of "no error" included
(R23, R29, R221). -/
@[simp] theorem statusWord_reset : statusWord Block.reset = 0 := by decide

@[simp] theorem readReg_reset (r : Reg) : readReg r Block.reset = 0 := by
  cases r with
  | status => exact statusWord_reset
  | ctrl | cfg | num | digits | unscr | temp | fields => rfl

/-- Settles O19: the record is read off its definition, and the registers off the record. -/
theorem resetRecordIsZero : Obligations.ResetRecordIsZero :=
  ⟨State.reset_block, readReg_reset, rfl, rfl⟩

end Sys2Proof.Machine
end

section
/-! The register window (R60, R62): which accesses the block performs, and what a read or a write of a
register answers and leaves in the block (R64, R65). -/

namespace Sys2Proof.Machine

/-- An access reaches a register iff it has 8 bytes and a multiple of 8 below 0x40 as its offset (R62). -/
theorem accessReg_eq_none_iff {off n : Nat} :
    accessReg off n = none ↔ ¬(n = 8 ∧ off % 8 = 0 ∧ off < 0x40) := by
  have hslot : ∀ k < 8, regOfSlot k ≠ none := by decide
  unfold accessReg accessSize windowSize
  split
  case isTrue h => simp [h, hslot (off / 8) (by omega)]
  case isFalse h => simp [h]

theorem exists_accessReg_eq_some {off n : Nat} (h : n = 8 ∧ off % 8 = 0 ∧ off < 0x40) :
    ∃ r, accessReg off n = some r :=
  Option.ne_none_iff_exists'.mp fun hnone => accessReg_eq_none_iff.mp hnone h

theorem accessReg_regOffset (r : Reg) : accessReg (regOffset r) 8 = some r := by
  cases r <;> rfl

section
variable {p : Place} {off n : Nat}

/-- An access of a wrong size, alignment or offset is answered with a BusError and nothing else (R62, R223). -/
theorem hostAccess_busError {a : Access} (hp : placeOffset (accessPlace a) = some off)
    (hr : accessReg off (accessBytes a) = none) (s : State) :
    hostAccess a s = .next (s.setResponse (some (busErrorResponse off a))) := by
  simp [hostAccess, hp, hr]

variable {r : Reg}

theorem hostAccess_read (hp : placeOffset p = some off) (hr : accessReg off n = some r) (s : State) :
    hostAccess (.read p n) s = .next (s.setResponse (some (.data (readReg r s.block)))) := by
  simp [hostAccess, accessPlace, accessBytes, hp, hr, performAccess]

theorem hostAccess_write (hp : placeOffset p = some off) (hr : accessReg off n = some r) (v : Word)
    (s : State) : hostAccess (.write p n v) s =
      .next ((s.setResponse (some .done)).setBlock (writeEffect r v s.block)) := by
  simp [hostAccess, accessPlace, accessBytes, hp, hr, performAccess, writeReg_eq]

end

/-- Settles O15: the access reaches a register iff R62 performs it. -/
theorem badAccessGetsBusError : Obligations.BadAccessGetsBusError := by
  intro s off n v
  refine ⟨fun hbad => ?_, fun hgood => ?_⟩
  · have hnone : accessReg off n = none := accessReg_eq_none_iff.mpr hbad
    exact ⟨hostAccess_busError rfl hnone s, _, none, hostAccess_busError rfl hnone s, rfl, rfl, rfl⟩
  · obtain ⟨r, hr⟩ := exists_accessReg_eq_some hgood
    exact ⟨⟨_, hostAccess_read rfl hr s⟩, _, hostAccess_write rfl hr v s, by simp⟩

/-- A protected write by the state in STATE, as R65 writes it. -/
theorem protect_eq_ite (f : Block → Block) (b : Block) :
    protect f b = if b.state ≠ .idle then recordErr .busyWrite b else f b := by
  split
  case isTrue h => exact protect_busy f h
  case isFalse h => exact protect_idle f (not_not.mp h)

theorem writeNum_eq_ite (v : Word) (b : Block) : writeNum v b =
    if b.state ≠ .idle then recordErr .busyWrite b else { b with num := v } := by
  rw [writeNum, protect_eq_ite]

theorem writeDigits_eq_ite (v : Word) (b : Block) : writeDigits v b =
    if b.state ≠ .idle then recordErr .busyWrite b else { b with digits := v } := by
  rw [writeDigits, protect_eq_ite]

theorem writeUnscr_eq_ite (v : Word) (b : Block) : writeUnscr v b =
    if b.state ≠ .idle then recordErr .busyWrite b else { b with unscr := v } := by
  rw [writeUnscr, protect_eq_ite]

/-- An 8-byte write at a register's offset is performed without a BusError, at that register only. -/
theorem hostAccess_write_regOffset (r : Reg) (v : Word) (s : State) :
    ∃ t : State, hostAccess (.write (.offset (regOffset r)) 8 v) s = .next t ∧ t.inputs = s.inputs ∧
      t.block = writeEffect r v s.block ∧ ∀ o m d, t.response ≠ some (.busError o m d) :=
  ⟨_, hostAccess_write rfl (accessReg_regOffset r) v s, rfl, rfl, by simp⟩

/-- Settles O12, register by register. -/
theorem hostWriteEffects : Obligations.HostWriteEffects := by
  intro s v leaves
  have write (r : Reg) {b : Block} (hb : writeEffect r v s.block = b) : leaves (regOffset r) b :=
    hb ▸ hostAccess_write_regOffset r v s
  exact ⟨⟨_, ctrlWrite_eq v s, write .ctrl rfl⟩, write .status rfl, write .cfg rfl,
    write .num (writeNum_eq_ite v _), write .digits (writeDigits_eq_ite v _),
    write .unscr (writeUnscr_eq_ite v _), write .temp rfl, write .fields rfl⟩

theorem hostAccess_read_regOffset (r : Reg) (s : State) :
    hostAccess (.read (.offset (regOffset r)) 8) s =
      .next { s with response := some (.data (readReg r s.block)) } :=
  hostAccess_read rfl (accessReg_regOffset r) s

theorem flagBit_eq_ite (f : Bool) : flagBit f = if f then 1 else 0 := by
  cases f <;> rfl

/-- BUSY as a word (R24). -/
theorem flagBit_busy (b : Block) : flagBit (busy b) = if b.state ≠ .idle then 1 else 0 := by
  simp [flagBit_eq_ite]

/-- Settles O13, register by register. -/
theorem hostReadValues : Obligations.HostReadValues := by
  intro s answer
  have read (r : Reg) : hostAccess (.read (.offset (regOffset r)) 8) s = answer (readReg r s.block) :=
    hostAccess_read_regOffset r s
  refine ⟨read .ctrl, ?status, ?cfg, read .num, read .digits, read .unscr, read .temp, read .fields⟩
  case status => exact flagBit_busy s.block ▸ read .status
  case cfg => exact flagBit_eq_ite s.block.ie ▸ read .cfg

end Sys2Proof.Machine
end

section
/-! The decoder (R93, R94): which words it accepts, and what CtrlWrite does with the others (R183). -/

namespace Sys2Proof

/-- The opcodes 6 to 15 are reserved (R93, R95). -/
theorem decodeOpcode_of_lt {op : Nibble} (h : 5 < op.toNat) :
    decodeOpcode op = .error .reservedOpcode := by
  unfold decodeOpcode
  split
  case h_7 => rfl
  all_goals omega

theorem exists_decodeOpcode_eq_ok_iff {op : Nibble} :
    (∃ i, decodeOpcode op = .ok i) ↔ op.toNat ≤ 5 := by
  constructor
  · rintro ⟨i, hi⟩
    by_contra hop
    simp [decodeOpcode_of_lt (not_le.mp hop)] at hi
  · intro hop
    unfold decodeOpcode
    interval_cases op.toNat <;> exact ⟨_, rfl⟩

theorem decode_of_reservedIsZero {w : Word} (h : reservedIsZero w = true) :
    decode w = decodeOpcode (w.setWidth 4) := by
  simp [decode, h]

/-- The decoder accepts exactly the legal words (R94). -/
theorem exists_decode_eq_ok_iff_legal {w : Word} : (∃ i, decode w = .ok i) ↔ legal w = true := by
  cases h : reservedIsZero w with
  | true =>
    simp [decode_of_reservedIsZero h, exists_decodeOpcode_eq_ok_iff, legal, opcodeIsAssigned, h]
  | false => simp [decode, legal, h]

theorem reservedIsZero_iff {w : Word} : reservedIsZero w = true ↔ w.toNat / 16 = 0 := by
  rw [reservedIsZero, beq_iff_eq, BitVec.toNat_eq, BitVec.toNat_ushiftRight, Nat.shiftRight_eq_div_pow]
  rfl

theorem opcodeIsAssigned_iff {w : Word} : opcodeIsAssigned w = true ↔ w.toNat % 16 ≤ 5 := by
  simp [opcodeIsAssigned]

theorem legal_iff {w : Word} : legal w = true ↔ w.toNat / 16 = 0 ∧ w.toNat % 16 ≤ 5 := by
  simp only [legal, Bool.and_eq_true, reservedIsZero_iff, opcodeIsAssigned_iff]

theorem decode_of_reservedOpcode {w : Word} (hrsvd : w.toNat / 16 = 0) (hop : 5 < w.toNat % 16) :
    decode w = .error .reservedOpcode := by
  rw [decode_of_reservedIsZero (reservedIsZero_iff.mpr hrsvd)]
  exact decodeOpcode_of_lt (by simpa using hop)

/-- Settles O1, row by row of the opcode map. -/
theorem decoderReadsTheOpcodeMap : Obligations.DecoderReadsTheOpcodeMap := by
  refine ⟨rfl, rfl, rfl, rfl, rfl, rfl, fun w hw => ?_⟩
  have hfields : ∀ w ∈ ([6, 7, 8, 9, 10, 11, 12, 13, 14, 15] : List Word),
      w.toNat / 16 = 0 ∧ 5 < w.toNat % 16 := by simp
  obtain ⟨hrsvd, hop⟩ := hfields w hw
  exact decode_of_reservedOpcode hrsvd hop

namespace Machine

/-- An illegal word written to CTRL in IDLE raises ILLEGAL_CMD (R94, R224). -/
theorem ctrlWrite_illegal {w : Word} {s : State} (hs : s.block.state = .idle) (hw : ¬ legal w = true) :
    ctrlWrite w s = .next (s.setBlock (illegalCommand s.block)) := by
  have heffect : ctrlEffect w = illegalCommand := by
    cases h : decode w with
    | ok i => exact absurd (exists_decode_eq_ok_iff_legal.mp ⟨i, h⟩) hw
    | error e => simp [ctrlEffect, h]
  rw [ctrlWrite_eq, protect_idle _ hs, heffect]

/-- Any word written to CTRL while a command runs raises BUSY_WRITE (R94, R225). -/
theorem ctrlWrite_busy (w : Word) {s : State} (hs : s.block.state ≠ .idle) :
    ctrlWrite w s = .next (s.setBlock (busyWrite s.block)) := by
  rw [ctrlWrite_eq, protect_busy _ hs]

end Machine

/-- Settles O2: the decoder accepts the legal words, and legality is the two field checks. -/
theorem legalWordsAreTheSixCommands : Obligations.LegalWordsAreTheSixCommands := fun _ =>
  ⟨exists_decode_eq_ok_iff_legal.trans legal_iff,
    fun _ hs hw => Machine.ctrlWrite_illegal hs (mt legal_iff.mp hw),
    fun _ hs => Machine.ctrlWrite_busy _ hs⟩

end Sys2Proof
end

section
/-! The lanes of steps 5 and 6 of the descrambler (R116, R117): six bytes assembled into the low 48 bits
of a word, bit by bit and byte by byte. -/

namespace Sys2Proof.Machine

theorem getLsbD_byteOf (v : Word) (k j : Nat) :
    (byteOf v k).getLsbD j = (decide (j < 8) && v.getLsbD (8 * k + j)) := by
  simp [byteOf]

/-- Bit j of byte lanes 0 to n-1 laid side by side is bit `j % 8` of lane `j / 8`. -/
theorem getLsbD_foldl_lanes (lane : Nat → Byte) (n : Nat) {j : Nat} (hj : j < 64) :
    ((List.range n).foldl (fun acc i => acc ||| ((lane i).setWidth 64 <<< (8 * i))) (0 : Word)).getLsbD j =
      (decide (j < 8 * n) && (lane (j / 8)).getLsbD (j % 8)) := by
  induction n with
  | zero => simp
  | succ n ih =>
    rw [List.range_succ, List.foldl_append, List.foldl_cons, List.foldl_nil, BitVec.getLsbD_or, ih]
    by_cases hlow : j < 8 * n
    · simp [hlow, show j < 8 * (n + 1) by omega]
    by_cases hhere : j < 8 * (n + 1)
    · have hdiv : j / 8 = n := by omega
      have hmod : j % 8 = j - 8 * n := by omega
      simp [hlow, hhere, hj, hdiv, hmod]
    · have hpast : (lane n).getLsbD (j - 8 * n) = false := BitVec.getLsbD_of_ge _ _ (by omega)
      simp [hlow, hhere, hpast]

theorem getLsbD_assembleLanes (lane : Nat → Byte) {j : Nat} (hj : j < 64) :
    (assembleLanes lane).getLsbD j = (decide (j < 48) && (lane (j / 8)).getLsbD (j % 8)) :=
  getLsbD_foldl_lanes lane 6 hj

theorem getLsbD_replaceLow (v low : Word) {j : Nat} (hj : j < 64) :
    (replaceLow v low).getLsbD j = (v.getLsbD j && !decide (j < 48) || low.getLsbD j) := by
  have hmask : (0x0000FFFFFFFFFFFF : Word) = (BitVec.allOnes 48).setWidth 64 := rfl
  rw [replaceLow, hmask, BitVec.getLsbD_or, BitVec.getLsbD_and, BitVec.getLsbD_not,
    BitVec.getLsbD_setWidth, BitVec.getLsbD_allOnes]
  simp [hj]

section
variable (v : Word) (lane : Nat → Byte)

/-- The low 48 bits of a rebuilt word are its lanes. -/
theorem byteOf_replaceLow_assembleLanes {i : Nat} (hi : i < 6) :
    byteOf (replaceLow v (assembleLanes lane)) i = lane i := by
  refine BitVec.eq_of_getLsbD_eq fun j hj => ?_
  have hdiv : (8 * i + j) / 8 = i := by omega
  have hmod : (8 * i + j) % 8 = j := by omega
  have hbit : 8 * i + j < 64 := by omega
  have hlow : 8 * i + j < 48 := by omega
  rw [getLsbD_byteOf, getLsbD_replaceLow _ _ hbit, getLsbD_assembleLanes _ hbit, hdiv, hmod]
  simp [hj, hlow]

/-- Bits 63:48 of a rebuilt word are those of the original. -/
theorem extractLsb'_replaceLow_assembleLanes :
    (replaceLow v (assembleLanes lane)).extractLsb' 48 16 = v.extractLsb' 48 16 := by
  refine BitVec.eq_of_getLsbD_eq fun j hj => ?_
  have hbit : 48 + j < 64 := by omega
  simp [hj, getLsbD_replaceLow _ _ hbit, getLsbD_assembleLanes _ hbit]

end

theorem byteOf_permuteBytes (v4 : Word) {i : Nat} (hi : i < 6) :
    byteOf (permuteBytes v4) i = byteOf v4 (perm i) :=
  byteOf_replaceLow_assembleLanes v4 _ hi

/-- Settles O43, lane by lane, with P read off its table. -/
theorem bytePermutationLanes : Obligations.BytePermutationLanes := by
  intro v4
  have lane (i : Fin 6) : byteOf (permuteBytes v4) i = byteOf v4 (perm i) :=
    byteOf_permuteBytes v4 i.isLt
  exact ⟨lane 0, lane 1, lane 2, lane 3, lane 4, lane 5, extractLsb'_replaceLow_assembleLanes v4 _⟩

theorem byteOf_substituteNibbles (v5 : Word) {i : Nat} (hi : i < 6) :
    byteOf (substituteNibbles v5) i = substByte (byteOf v5 i) :=
  byteOf_replaceLow_assembleLanes v5 _ hi

theorem nibHi_substByte (t : Byte) : nibHi (substByte t) = subst (nibHi t) := by
  refine BitVec.eq_of_getLsbD_eq fun j hj => ?_
  simp [nibHi, substByte, hj, show 4 + j < 8 by omega]

theorem nibLo_substByte (t : Byte) : nibLo (substByte t) = subst (nibLo t) := by
  refine BitVec.eq_of_getLsbD_eq fun j hj => ?_
  simp [nibLo, substByte, hj]

/-- Settles O44: the table by its sixteen entries, each lane through its byte. -/
theorem nibbleSubstitutionLanes : Obligations.NibbleSubstitutionLanes := by
  refine ⟨rfl, fun v5 => ⟨fun i hi => ?_, extractLsb'_replaceLow_assembleLanes v5 _⟩⟩
  rw [byteOf_substituteNibbles v5 hi]
  exact ⟨nibHi_substByte _, nibLo_substByte _⟩

end Sys2Proof.Machine
end

section
/-! The function descramble (R110) and the command DESCR (R123). -/

namespace Sys2Proof.Machine

/-- Settles O41: each step of the model is its rule's text. -/
theorem descrambleIsTheEightSteps : Obligations.DescrambleIsTheEightSteps := by
  intro x
  rfl

/-- The input mask of step 1 makes descramble blind to bits 63:53 (R111). -/
theorem descramble_maskInput (x : Word) : descramble (maskInput x) = descramble x := by
  have hmask : maskInput (maskInput x) = maskInput x := by simp [maskInput, BitVec.and_assoc]
  simp only [descramble, dscV6, dscV4, dscV2, hmask]

theorem descramble_zero : descramble 0 = 0x0252E1E1E1E1E3A1 := by decide

theorem seqStep_dsc_descr {b : Block} (hs : b.state = .dsc) (ho : b.opr = opcode .descr) :
    seqStep b = finish { b with unscr := descramble b.num } := by
  rw [seqStep_dsc hs, dscStep, if_pos ho]

/-- Settles O22: acceptance, the one step of state DSC, and the corner cases. -/
theorem descrDescramblesNum : Obligations.DescrDescramblesNum := by
  obtain ⟨-, -, hdecode⟩ := Laws.Encoding.descr
  refine ⟨hdecode, fun s hs => ⟨exec_idle .descr hs, ?step⟩,
    fun s hs => exec_busy .descr hs, descramble_maskInput, descramble_zero, ?twoPow53, by decide⟩
  case step =>
    rw [seqRun_succ, seqRun_zero]
    exact seqStep_dsc_descr rfl rfl
  case twoPow53 => exact (descramble_maskInput 0x0020000000000000).symm.trans descramble_zero

end Sys2Proof.Machine
end

section
/-! The field extractor FEX: the slices of extract (R140), the layout of pack (R141), and the commands
EXTR (R145) and DECODE (R146). -/

namespace Sys2Proof.Machine

theorem extract_eq_slices (u : Word) : extract u =
    { entityId := u.extractLsb' 15 32, generationCount := u.extractLsb' 10 5,
      hardwareModel := u.extractLsb' 47 3, areaCode := u.extractLsb' 50 3 } := by
  simp only [extract, BitVec.setWidth_ushiftRight_eq_extractLsb]

/-- Settles O48, field by field. -/
theorem extractSlices : Obligations.ExtractSlices := by
  intro u
  rw [extract_eq_slices]
  exact ⟨rfl, rfl, rfl, rfl⟩

theorem extractLsb'_and_of_allOnes {mask : Word} {start n : Nat}
    (hmask : mask.extractLsb' start n = BitVec.allOnes n) (u : Word) :
    (u &&& mask).extractLsb' start n = u.extractLsb' start n := by
  rw [BitVec.extractLsb'_and, hmask, BitVec.and_allOnes]

/-- extract is blind to bits 9:0 and 63:53: each of its slices lies inside bits 52:10. -/
theorem extract_and_mask (u : Word) : extract (u &&& 0x001FFFFFFFFFFC00) = extract u := by
  simp only [extract_eq_slices]
  congr 1 <;> exact extractLsb'_and_of_allOnes (by decide) u

/-- A field of n bits alone in a word, with its lowest bit at bit k. -/
def fieldAt {n : Nat} (k : Nat) (x : BitVec n) : Word := x.setWidth 64 <<< k

theorem pack_eq_fieldAt (f : Identity) : pack f =
    fieldAt 0 f.entityId ||| fieldAt 32 f.generationCount ||| fieldAt 40 f.hardwareModel |||
      fieldAt 48 f.areaCode := by
  simp only [pack, fieldAt, BitVec.shiftLeft_zero]

section
variable {n k : Nat} (x : BitVec n)

theorem getLsbD_fieldAt {j : Nat} (hj : j < 64) :
    (fieldAt k x).getLsbD j = (!decide (j < k) && x.getLsbD (j - k)) := by
  simp [fieldAt, hj]

theorem extractLsb'_fieldAt_same (hk : k + n ≤ 64) : (fieldAt k x).extractLsb' k n = x := by
  refine BitVec.eq_of_getLsbD_eq fun j hj => ?_
  rw [BitVec.getLsbD_extractLsb', getLsbD_fieldAt x (by omega)]
  simp [hj]

theorem extractLsb'_fieldAt_disjoint {start m : Nat} (hm : start + m ≤ 64)
    (hdisj : start + m ≤ k ∨ k + n ≤ start) : (fieldAt k x).extractLsb' start m = 0#m := by
  refine BitVec.eq_of_getLsbD_eq fun j hj => ?_
  rw [BitVec.getLsbD_extractLsb', getLsbD_fieldAt x (by omega)]
  rcases hdisj with hbelow | habove
  · simp [show start + j < k by omega]
  · simp [BitVec.getLsbD_of_ge x (start + j - k) (by omega)]

/-- A field has no bit outside a mask that is all ones at its place. -/
theorem fieldAt_and_not {mask : Word} (hmask : mask.extractLsb' k n = BitVec.allOnes n) :
    fieldAt k x &&& ~~~mask = 0 := by
  refine BitVec.eq_of_getLsbD_eq fun j hj => ?_
  rw [BitVec.getLsbD_and, BitVec.getLsbD_not, getLsbD_fieldAt x hj]
  by_cases hplace : k ≤ j ∧ j - k < n
  · have hone : mask.getLsbD j = true := by
      have hbit := congrArg (fun v => v.getLsbD (j - k)) hmask
      simpa [hplace] using hbit
    simp [hone]
  · rcases not_and_or.mp hplace with hbelow | habove
    · simp [not_le.mp hbelow]
    · simp [BitVec.getLsbD_of_ge x (j - k) (not_lt.mp habove)]

end

theorem pack_and_not_layout (f : Identity) : pack f &&& ~~~0x0007071FFFFFFFFF = 0 := by
  simp (disch := decide) only [pack_eq_fieldAt, BitVec.and_or_distrib_right, fieldAt_and_not,
    BitVec.or_self]

/-- Settles O49: each slice of FIELDS meets its own field and misses the other three. -/
theorem packLayout : Obligations.PackLayout := by
  intro f
  refine ⟨?_, ?_, ?_, ?_, pack_and_not_layout f⟩ <;>
    simp [pack_eq_fieldAt, BitVec.extractLsb'_or, extractLsb'_fieldAt_same,
      extractLsb'_fieldAt_disjoint]

theorem seqStep_ext_finish {b : Block} (hs : b.state = .ext) (ho : b.opr ≠ opcode .validate) :
    seqStep b = finish { b with fields := pack (extract b.unscr) } := by
  rw [seqStep_ext hs, extStep, if_neg ho]

theorem seqStep_dsc_ext {b : Block} (hs : b.state = .dsc) (ho : b.opr ≠ opcode .descr) :
    seqStep b = { b with unscr := descramble b.num, state := .ext } := by
  rw [seqStep_dsc hs, dscStep, if_neg ho]

/-- DSC and EXT of a command that ends with EXT, the two steps of DECODE (R146). -/
theorem seqRun_dsc_ext_finish {b : Block} (hs : b.state = .dsc) (hdescr : b.opr ≠ opcode .descr)
    (hvalidate : b.opr ≠ opcode .validate) : seqRun 2 b =
      finish { b with unscr := descramble b.num, state := .ext,
                      fields := pack (extract (descramble b.num)) } := by
  rw [seqRun_succ, seqRun_succ, seqRun_zero, seqStep_dsc_ext hs hdescr]
  exact seqStep_ext_finish rfl hvalidate

/-- Settles O23: acceptance, the one step of state EXT, the ignored bits and the corner cases. -/
theorem extrPacksTheFields : Obligations.ExtrPacksTheFields := by
  obtain ⟨-, -, hdecode⟩ := Laws.Encoding.extr
  have hopr : opcode .extr ≠ opcode .validate := by decide
  refine ⟨hdecode, fun s hs => ⟨exec_idle .extr hs, ?step⟩, fun s hs => exec_busy .extr hs,
    extract_and_mask, by decide, by decide, by decide⟩
  rw [seqRun_succ, seqRun_zero]
  exact seqStep_ext_finish rfl hopr

theorem descramble_sample : descramble 8633996976788964 = 0x3FA8891A2B3C0E4E := by decide

/-- Settles O24: acceptance, the steps of states DSC and EXT, the corner case and the example. -/
theorem decodeFillsUnscrAndFields : Obligations.DecodeFillsUnscrAndFields := by
  obtain ⟨-, -, hdecode⟩ := Laws.Encoding.decode
  have hdescr : opcode .decode ≠ opcode .descr := by decide
  have hvalidate : opcode .decode ≠ opcode .validate := by decide
  refine ⟨hdecode, fun s hs => ⟨exec_idle .decode hs, ?dsc, ?ext⟩,
    fun s hs => exec_busy .decode hs, descramble_zero, ?zero, descramble_sample, ?sample⟩
  case dsc =>
    rw [seqRun_succ, seqRun_zero]
    exact seqStep_dsc_ext rfl hdescr
  case ext => exact seqRun_dsc_ext_finish rfl hdescr hvalidate
  case zero => rw [descramble_zero]; decide
  case sample => rw [descramble_sample]; decide

end Sys2Proof.Machine
end

section
/-! The checksum: the reduction loop and its test (R160, R161), the sequencer states that run it
(R168 to R170), and the command CRC (R171). -/

namespace Sys2Proof.Machine

/-- The reduction is the loop of R160 over its iterations in ascending order. -/
theorem reduce_eq_foldl (u : Word) (k : Nat) : reduce u k = (List.range k).foldl redStep u := by
  induction k with
  | zero => rfl
  | succ k ih =>
    rw [reduce_succ, ih, List.range_succ, List.foldl_append, List.foldl_cons, List.foldl_nil]

theorem lowByteZero_eq_decide (temp : Word) : lowByteZero temp = decide (temp &&& 0xFF = 0) := rfl

/-- Settles O51: the range of one iteration is `i < 43`, and the loop is the fold over it. -/
theorem reductionLoop : Obligations.ReductionLoop := by
  refine ⟨fun temp i hi => redStep_of_lt temp (Nat.lt_succ_of_le hi), fun u => ?_⟩
  rw [isChecksumValid, reduce_eq_foldl, lowByteZero_eq_decide, crcIters]

/-- An iteration whose tested bit is 0 leaves the value as it is, and so does a run of them (R161). -/
theorem reduce_of_bits_clear {u : Word} {k : Nat} (hk : k ≤ crcIters)
    (hclear : ∀ i < k, u.getLsbD (52 - i) = false) : reduce u k = u := by
  induction k with
  | zero => rfl
  | succ k ih =>
    rw [reduce_succ, ih (Nat.le_of_succ_le hk) fun i hi => hclear i (Nat.lt_succ_of_lt hi),
      redStep_of_lt u hk, hclear k (Nat.lt_succ_self k), if_neg Bool.false_ne_true]

/-- A value without a dividend, bits 52:10, is judged by its own low byte. -/
theorem isChecksumValid_of_bits_clear {u : Word} (hclear : ∀ i < 43, u.getLsbD (52 - i) = false) :
    isChecksumValid u = lowByteZero u := by
  rw [isChecksumValid, reduce_of_bits_clear le_rfl hclear]

/-- The test applied to a remainder that is known. -/
theorem isChecksumValid_of_reduce {u r : Word} (h : reduce u 43 = r) :
    isChecksumValid u = lowByteZero r :=
  congrArg lowByteZero h

/-- The last sequencer step taken off a run. -/
theorem seqRun_succ_last (n : Nat) (b : Block) : seqRun (n + 1) b = seqStep (seqRun n b) :=
  seqRun_add n 1 b

/-- A block that is busy after m steps was busy after every smaller number of them (R186). -/
theorem seqRun_state_ne_idle_of_le {b : Block} {m n : Nat} (hm : (seqRun m b).state ≠ .idle)
    (hn : n ≤ m) : (seqRun n b).state ≠ .idle := by
  intro hidle
  obtain ⟨d, rfl⟩ := Nat.exists_eq_add_of_le hn
  rw [seqRun_add, seqRun_idle hidle] at hm
  exact hm hidle

section
variable {b : Block}

theorem seqStep_red_of_ne (hs : b.state = .red) (hi : b.iter ≠ 42) :
    seqStep b = { b with temp := redStep b.temp b.iter.toNat, iter := b.iter + 1 } := by
  rw [seqStep_red hs, redState, if_neg hi]

/-- An iteration before the last one, with ITER read as a number. -/
theorem seqStep_red_of_lt (hs : b.state = .red) {k : Nat} (hi : b.iter = BitVec.ofNat 6 k)
    (hk : k < 42) :
    seqStep b = { b with temp := redStep b.temp k, iter := BitVec.ofNat 6 (k + 1) } := by
  have hnum : b.iter.toNat = k := by rw [hi, BitVec.toNat_ofNat, Nat.mod_eq_of_lt (by omega)]
  have hne : b.iter ≠ 42 := fun h => absurd (hnum.symm.trans (congrArg BitVec.toNat h)) hk.ne
  rw [seqStep_red_of_ne hs hne, hnum, hi, BitVec.ofNat_add]
  rfl

theorem seqStep_red_last (hs : b.state = .red) (hi : b.iter = 42) :
    seqStep b = { b with temp := redStep b.temp 42, iter := 43, state := .chk } := by
  rw [seqStep_red hs, redState, if_pos hi, hi]
  rfl

/-- Before the last iteration of RED, ITER counts the iterations done and TEMP holds their result
(R169). -/
theorem seqRun_red (hs : b.state = .red) (hi : b.iter = 0) {k : Nat} (hk : k < 43) :
    seqRun k b = { b with temp := reduce b.temp k, iter := BitVec.ofNat 6 k } := by
  induction k with
  | zero =>
    have hzero : b.iter = BitVec.ofNat 6 0 := hi
    rw [seqRun_zero, reduce_zero, ← hzero]
  | succ k ih =>
    rw [seqRun_succ_last, ih (Nat.lt_of_succ_lt hk)]
    refine seqStep_red_of_lt ?_ rfl (Nat.lt_of_succ_lt_succ hk)
    exact hs

/-- The 43 iterations of RED (R169). -/
theorem seqRun_red_all (hs : b.state = .red) (hi : b.iter = 0) :
    seqRun 43 b = { b with temp := reduce b.temp 43, iter := 43, state := .chk } := by
  rw [seqRun_succ_last, seqRun_red hs hi (Nat.lt_succ_self 42)]
  exact seqStep_red_last hs rfl

/-- LOAD and RED take 44 steps and leave the reduced UNSCR to CHK, whatever the command (R168, R169). -/
theorem seqRun_load_red (hs : b.state = .load) :
    seqRun 44 b = { b with temp := reduce b.unscr 43, iter := 43, state := .chk } := by
  rw [seqRun_succ, seqStep_load hs, loadStep, seqRun_red_all rfl rfl]

theorem seqRun_load_state_ne_idle (hs : b.state = .load) {n : Nat} (hn : n < 45) :
    (seqRun n b).state ≠ .idle := by
  refine seqRun_state_ne_idle_of_le (m := 44) ?_ (Nat.le_of_lt_succ hn)
  rw [seqRun_load_red hs]
  exact SeqState.noConfusion

theorem seqStep_chk_finish (hs : b.state = .chk) (ho : b.opr ≠ opcode .validate) :
    seqStep b = finish { b with crcOk := lowByteZero b.temp } := by
  rw [seqStep_chk hs, chkStep, if_neg fun ⟨hvalidate, _⟩ => ho hvalidate]

/-- LOAD, RED and CHK of a command that ends with CHK, the 45 steps of CRC (R171). -/
theorem seqRun_load_red_chk_finish (hs : b.state = .load) (ho : b.opr ≠ opcode .validate) :
    seqRun 45 b = finish { b with temp := reduce b.unscr 43, iter := 43, state := .chk,
                                  crcOk := isChecksumValid b.unscr } := by
  rw [seqRun_succ_last, seqRun_load_red hs]
  exact seqStep_chk_finish rfl ho

end

/-! The remainders of V-CRC-8, V-CRC-10 and V-CRC-12. -/

theorem reduce_twoPow52 : reduce 0x0010000000000000 43 = 0x89 := by decide +kernel

theorem reduce_allOnes : reduce 0xFFFFFFFFFFFFFFFF 43 = 0xFFE00000000002E2 := by decide +kernel

theorem reduce_sample : reduce 0x3FA8891A2B3C0E4E 43 = 0x3FA0000000000000 := by decide +kernel

/-- GEN_POLY itself meets no set bit before the last iteration, which removes it. -/
theorem reduce_genPoly : reduce genPoly 42 = genPoly ∧ reduce genPoly 43 = 0 := by
  have hbefore : reduce genPoly 42 = genPoly := reduce_of_bits_clear (by decide) (by decide)
  refine ⟨hbefore, ?_⟩
  rw [reduce_succ, hbefore]
  decide

/-- Settles O25: acceptance, the 45 steps of LOAD, RED and CHK, and the corner cases. -/
theorem crcChecksUnscr : Obligations.CrcChecksUnscr := by
  obtain ⟨-, -, hdecode⟩ := Laws.Encoding.crc
  obtain ⟨hpoly42, hpoly43⟩ := reduce_genPoly
  have hopr : opcode .crc ≠ opcode .validate := by decide
  have byLowByte {u : Word} := isChecksumValid_of_bits_clear (u := u)
  refine ⟨hdecode, fun s hs => ⟨exec_idle .crc hs, fun n hn => seqRun_load_state_ne_idle rfl hn,
      seqRun_load_red_chk_finish rfl hopr⟩, fun s hs => exec_busy .crc hs,
    byLowByte (by decide), isChecksumValid_of_reduce hpoly43, hpoly42, hpoly43,
    byLowByte (by decide), reduce_of_bits_clear le_rfl (by decide),
    byLowByte (by decide), byLowByte (by decide), byLowByte (by decide), byLowByte (by decide),
    isChecksumValid_of_reduce reduce_twoPow52, reduce_twoPow52,
    byLowByte (by decide), reduce_of_bits_clear le_rfl (by decide),
    isChecksumValid_of_reduce reduce_allOnes, reduce_allOnes,
    isChecksumValid_of_reduce reduce_sample, reduce_sample⟩

end Sys2Proof.Machine
end

section
/-! The branches of CtrlWrite (R183 to R185) and the command NOP (R189). -/

namespace Sys2Proof.Machine

/-- A legal word written to CTRL in IDLE is accepted (R183). -/
theorem ctrlWrite_legal {w : Word} {i : Instr} {s : State} (hw : decode w = .ok i)
    (hs : s.block.state = .idle) : ctrlWrite w s = .next (s.setBlock (acceptance i s.block)) := by
  have heffect : ctrlEffect w = acceptance i := by simp [ctrlEffect, hw]
  rw [ctrlWrite_eq, protect_idle _ hs, heffect]

/-- Settles O8: busy, illegal, and one branch for each of the six legal words. -/
theorem ctrlWriteBranches : Obligations.CtrlWriteBranches := by
  intro w s
  refine ⟨ctrlWrite_busy w, fun hs hw => ctrlWrite_illegal hs (mt legal_iff.mp hw),
    ?nop, ?descr, ?extr, ?decode, ?crc, ?validate⟩ <;> rintro hs rfl
  case nop => exact ctrlWrite_legal (i := .nop) rfl hs
  case descr => exact ctrlWrite_legal (i := .descr) rfl hs
  case extr => exact ctrlWrite_legal (i := .extr) rfl hs
  case decode => exact ctrlWrite_legal (i := .decode) rfl hs
  case crc => exact ctrlWrite_legal (i := .crc) rfl hs
  case validate => exact ctrlWrite_legal (i := .validate) rfl hs

/-- Settles O21: acceptance is the whole of NOP. -/
theorem nopCompletesAtOnce : Obligations.NopCompletesAtOnce := by
  obtain ⟨-, -, hdecode⟩ := Laws.Encoding.nop
  exact ⟨hdecode, fun s hs => exec_idle .nop hs, fun s hs => exec_busy .nop hs,
    exec_idle .nop rfl, by decide⟩

end Sys2Proof.Machine
end

section
/-! The gates of VALIDATE: the length gate (R187), the checksum gate (R170), the blacklist gate (R188),
and the command's exit paths (R190). -/

namespace Sys2Proof.Machine

/-- The low half of FIELDS is the entity id, so BL tests it against the sentinel (R141, R188). -/
theorem blacklisted_pack (f : Identity) : blacklisted (pack f) = decide (f.entityId = sentinel) := by
  obtain ⟨hentity, -⟩ := packLayout f
  rw [blacklisted, BitVec.setWidth_eq_extractLsb' (by decide), hentity]
  rfl

/-- The block in CHK of a VALIDATE that started from `b`: DSC, EXT, LOAD and RED have filled UNSCR,
FIELDS and TEMP (R124, R144, R168, R169). -/
def validateAtChk (b : Block) : Block :=
  { b with
    lenOk := true, unscr := descramble b.num, fields := pack (extract (descramble b.num)),
    temp := reduce (descramble b.num) 43, iter := 43, state := .chk }

section
variable {b : Block}

theorem seqStep_gate_fail (hs : b.state = .gate) (hd : b.digits ≠ requiredDigits) :
    seqStep b = finish b := by
  rw [seqStep_gate hs, gateStep, if_neg hd]

theorem seqStep_gate_pass (hs : b.state = .gate) (hd : b.digits = requiredDigits) :
    seqStep b = { b with lenOk := true, state := .dsc } := by
  rw [seqStep_gate hs, gateStep, if_pos hd]

theorem seqStep_ext_load (hs : b.state = .ext) (ho : b.opr = opcode .validate) :
    seqStep b = { b with fields := pack (extract b.unscr), state := .load } := by
  rw [seqStep_ext hs, extStep, if_pos ho]

theorem seqStep_chk_fail (hs : b.state = .chk) (hc : lowByteZero b.temp = false) :
    seqStep b = finish { b with crcOk := false } := by
  rw [seqStep_chk hs, chkStep, hc, if_neg fun ⟨_, hpass⟩ => Bool.false_ne_true hpass]

theorem seqStep_chk_pass (hs : b.state = .chk) (ho : b.opr = opcode .validate)
    (hc : lowByteZero b.temp = true) : seqStep b = { b with crcOk := true, state := .bl } := by
  rw [seqStep_chk hs, chkStep, hc, if_pos ⟨ho, rfl⟩]

/-- DSC and EXT of a VALIDATE, which goes on to the checksum (R124, R144). -/
theorem seqRun_dsc_ext_load (hs : b.state = .dsc) (ho : b.opr = opcode .validate) : seqRun 2 b =
    { b with unscr := descramble b.num, fields := pack (extract (descramble b.num)),
             state := .load } := by
  have hdescr : b.opr ≠ opcode .descr := ho ▸ by decide
  rw [seqRun_succ, seqRun_succ, seqRun_zero, seqStep_dsc_ext hs hdescr]
  exact seqStep_ext_load rfl ho

variable (hs : b.state = .gate) (ho : b.opr = opcode .validate) (hd : b.digits = requiredDigits)
include hs ho hd

theorem seqRun_validate_load : seqRun 3 b =
    { b with lenOk := true, unscr := descramble b.num,
             fields := pack (extract (descramble b.num)), state := .load } := by
  rw [seqRun_succ, seqStep_gate_pass hs hd]
  exact seqRun_dsc_ext_load rfl ho

/-- GATE, DSC, EXT, LOAD and RED of a VALIDATE that passes the length gate take 47 steps. -/
theorem seqRun_validate_chk : seqRun 47 b = validateAtChk b := by
  rw [seqRun_add 3 44, seqRun_validate_load hs ho hd]
  exact seqRun_load_red rfl

/-- A checksum failure ends VALIDATE at step 48, in CHK (R170). -/
theorem seqRun_validate_crc_fail (hc : isChecksumValid (descramble b.num) = false) :
    seqRun 48 b = finish { validateAtChk b with crcOk := false } := by
  rw [seqRun_succ_last, seqRun_validate_chk hs ho hd]
  exact seqStep_chk_fail rfl hc

theorem seqRun_validate_crc_pass (hc : isChecksumValid (descramble b.num) = true) :
    seqRun 48 b = { validateAtChk b with crcOk := true, state := .bl } := by
  rw [seqRun_succ_last, seqRun_validate_chk hs ho hd]
  exact seqStep_chk_pass rfl ho hc

/-- Past the checksum gate VALIDATE ends at step 49, in BL, with the blacklist's verdict on the entity
id (R188). -/
theorem seqRun_validate_bl (hc : isChecksumValid (descramble b.num) = true) :
    seqRun 49 b = finish { validateAtChk b with
      crcOk := true, black := decide ((extract (descramble b.num)).entityId = sentinel),
      valid := !decide ((extract (descramble b.num)).entityId = sentinel) } := by
  rw [seqRun_succ_last, seqRun_validate_crc_pass hs ho hd hc, seqStep_bl rfl, blStep,
    ← blacklisted_pack]
  rfl

theorem seqRun_validate_black (hc : isChecksumValid (descramble b.num) = true)
    (hblack : (extract (descramble b.num)).entityId = sentinel) : seqRun 49 b =
      finish { validateAtChk b with crcOk := true, black := true, valid := false } := by
  rw [seqRun_validate_bl hs ho hd hc, decide_eq_true hblack]
  rfl

theorem seqRun_validate_valid (hc : isChecksumValid (descramble b.num) = true)
    (hblack : (extract (descramble b.num)).entityId ≠ sentinel) : seqRun 49 b =
      finish { validateAtChk b with crcOk := true, black := false, valid := true } := by
  rw [seqRun_validate_bl hs ho hd hc, decide_eq_false hblack]
  rfl

/-- Past the length gate VALIDATE is busy up to CHK. -/
theorem seqRun_validate_busy {n : Nat} (hn : n < 48) : (seqRun n b).state ≠ .idle := by
  refine seqRun_state_ne_idle_of_le (m := 47) ?_ (Nat.le_of_lt_succ hn)
  rw [seqRun_validate_chk hs ho hd]
  exact SeqState.noConfusion

/-- Past the checksum gate VALIDATE is busy up to BL. -/
theorem seqRun_validate_crc_pass_busy (hc : isChecksumValid (descramble b.num) = true) {n : Nat}
    (hn : n < 49) : (seqRun n b).state ≠ .idle := by
  refine seqRun_state_ne_idle_of_le (m := 48) ?_ (Nat.le_of_lt_succ hn)
  rw [seqRun_validate_crc_pass hs ho hd hc]
  exact SeqState.noConfusion

end

/-- The number of V-ORC-4 passes the checksum and is not blacklisted. -/
theorem sample_passes_gates : isChecksumValid (descramble 8633996976788964) = true ∧
    (extract (descramble 8633996976788964)).entityId ≠ sentinel := by
  rw [descramble_sample]
  exact ⟨isChecksumValid_of_reduce reduce_sample, by decide⟩

/-- Settles O26: acceptance, the four exits of the gates, and the example. -/
theorem validateRunsTheGates : Obligations.ValidateRunsTheGates := by
  obtain ⟨-, -, hdecode⟩ := Laws.Encoding.validate
  refine ⟨hdecode, ?idle, fun s hs => exec_busy .validate hs, descramble_maskInput, ?sample⟩
  case idle =>
    intro s hs a u e
    have hgate : a.state = .gate := rfl
    have hopr : a.opr = opcode .validate := rfl
    refine ⟨exec_idle .validate hs, fun hlen => ?length, fun hlen hcrc => ?crc,
      fun hlen hcrc hid => ?black, fun hlen hcrc hid => ?valid⟩
    case length => exact seqStep_gate_fail hgate hlen
    case crc =>
      exact ⟨seqRun_validate_crc_fail hgate hopr hlen hcrc,
        fun _ => seqRun_validate_busy hgate hopr hlen⟩
    case black =>
      exact ⟨seqRun_validate_black hgate hopr hlen hcrc hid,
        fun _ => seqRun_validate_crc_pass_busy hgate hopr hlen hcrc⟩
    case valid =>
      exact ⟨seqRun_validate_valid hgate hopr hlen hcrc hid,
        fun _ => seqRun_validate_crc_pass_busy hgate hopr hlen hcrc⟩
  case sample =>
    intro s hblock
    have hgate : (acceptance .validate s.block).state = .gate := rfl
    have hopr : (acceptance .validate s.block).opr = opcode .validate := rfl
    have hlen : (acceptance .validate s.block).digits = requiredDigits := congrArg Block.digits hblock
    have hnum : (acceptance .validate s.block).num = 8633996976788964 := congrArg Block.num hblock
    obtain ⟨hcrc, hid⟩ := sample_passes_gates
    rw [← hnum] at hcrc hid
    refine ⟨_, exec_idle .validate (congrArg Block.state hblock), ?_⟩
    rw [setBlock_block, seqRun_validate_valid hgate hopr hlen hcrc hid, hblock]
    exact ⟨rfl, rfl⟩

end Sys2Proof.Machine
end

section
/-! Errors (R222 to R225) and the interrupt output (R228). -/

namespace Sys2Proof.Machine

section
variable {b : Block}

theorem recordErr_of_err_eq_false (c : ErrCode) (h : b.err = false) :
    recordErr c b = { b with errc := c, err := true } := by
  simp [recordErr, h]

theorem recordErr_of_err_eq_true (c : ErrCode) (h : b.err = true) : recordErr c b = b := by
  rw [recordErr, if_pos h, ← h]

end

/-- Settles O9: by the value of ERR. -/
theorem firstErrorKeepsItsCode : Obligations.FirstErrorKeepsItsCode := fun c _ =>
  ⟨recordErr_of_err_eq_false c, recordErr_of_err_eq_true c⟩

/-- The two field checks of an illegal word, with RSVD as a shift (R94). -/
theorem not_legal_iff {w : Word} : ¬ legal w = true ↔ w >>> 4 ≠ 0 ∨ 6 ≤ w.toNat % 16 := by
  rw [legal, Bool.and_eq_true, not_and_or, opcodeIsAssigned_iff, not_le, reservedIsZero, beq_iff_eq]
  rfl

/-- Settles O10: a write at offset 0 is CtrlWrite of its word, which raises ILLEGAL_CMD. -/
theorem illegalCommandIsRecorded : Obligations.IllegalCommandIsRecorded := by
  intro s w hs hw
  obtain ⟨⟨u, hu, t, ht, hinputs, hblock, -⟩, -⟩ := hostWriteEffects s w
  have hillegal := ctrlWrite_illegal hs (not_legal_iff.mpr hw)
  cases hu.symm.trans hillegal
  exact ⟨t, ht, hinputs, hblock⟩

/-- A write of a protected register while a command runs raises BUSY_WRITE, whatever the word (R66, R225). -/
theorem writeEffect_protected_busy {r : Reg} (hr : r ∈ [Reg.ctrl, .num, .digits, .unscr]) (v : Word)
    {b : Block} (hb : b.state ≠ .idle) : writeEffect r v b = busyWrite b := by
  cases r with
  | ctrl => exact protect_busy _ hb
  | num => exact (writeNum_eq_ite v b).trans (if_pos hb)
  | digits => exact (writeDigits_eq_ite v b).trans (if_pos hb)
  | unscr => exact (writeUnscr_eq_ite v b).trans (if_pos hb)
  | status | cfg | temp | fields => exact absurd hr (by decide)

/-- Settles O11: the four offsets are those of the protected registers. -/
theorem busyWriteIsDropped : Obligations.BusyWriteIsDropped := by
  intro s v off hs hoff
  have hreg : off ∈ [Reg.ctrl, .num, .digits, .unscr].map regOffset := hoff
  obtain ⟨r, hr, rfl⟩ := List.mem_map.mp hreg
  obtain ⟨t, ht, hinputs, hblock, -⟩ := hostAccess_write_regOffset r v s
  exact ⟨t, ht, hinputs, hblock.trans (writeEffect_protected_busy hr v hs)⟩

/-- Settles O17: the gates of `irq` as connectives. -/
theorem interruptEquation : Obligations.InterruptEquation := fun b => by
  rw [irq, Bool.and_eq_true, Bool.or_eq_true]

end Sys2Proof.Machine
end

section
/-! Reset in any clock (R250), and the bus while `rst` is asserted (R74). -/

namespace Sys2Proof.Machine

/-- A bus address of the window stands for its distance from BASE (R60). -/
theorem placeOffset_base_add {off : Nat} (h : off < 0x40) :
    placeOffset (.address (Config.base + off)) = some off := by
  have hwindow : Config.base ≤ Config.base + off ∧ Config.base + off < Config.base + windowSize :=
    ⟨Nat.le_add_right _ _, Nat.add_lt_add_left h _⟩
  rw [placeOffset, if_pos hwindow, Nat.add_sub_cancel_left]

/-- A read that reaches the block during reset returns 0 (R74). -/
theorem slotResetResponse_read {p : Place} {off : Nat} (hp : placeOffset p = some off) (n : Nat) :
    slotResetResponse (some (.read p n)) = some (.data 0) := by
  simp [slotResetResponse, accessPlace, hp, resetResponse]

theorem resetResponse_ne_busError (a : Access) (off n : Nat) (r : Option Word) :
    resetResponse a ≠ .busError off n r := by
  cases a with
  | read p m => exact Response.noConfusion
  | write p m v => exact Response.noConfusion

/-- No access is answered with a BusError during reset (R74). -/
theorem slotResetResponse_ne_busError (a : Option Access) (off n : Nat) (r : Option Word) :
    slotResetResponse a ≠ some (.busError off n r) := by
  cases a with
  | none => exact (Option.some_ne_none _).symm
  | some a => simp [slotResetResponse, resetResponse_ne_busError]

/-- A step on a slot with `rst` asserted leaves the reset record and the reset's answer, whatever the
state was (R230, R250). -/
theorem step_reset {s : State} {t : Tick} {rest : List Tick} (hrst : t.rst = true)
    (hs : s.inputs = t :: rest) : step s =
      .next (((s.setInputs rest).setBlock Block.reset).setResponse (slotResetResponse t.access)) := by
  rw [step_cons hs]
  rcases tick_cases t (s.setInputs rest) with ⟨-, hreset⟩ | ⟨hrun, -⟩
  · exact hreset
  · exact absurd hrst (Bool.eq_false_iff.mp hrun)

/-- Settles O20: the step leaves the reset record, and its answer depends on the access alone. -/
theorem resetWinsOverEverything : Obligations.ResetWinsOverEverything := by
  intro s t rest hrst hs
  refine ⟨_, step_reset hrst hs, rfl, rfl, fun off n ha => ?offset, fun off n hoff ha => ?address,
    slotResetResponse_ne_busError t.access⟩
  case offset =>
    rw [setResponse_response, ha]
    exact slotResetResponse_read rfl n
  case address =>
    rw [setResponse_response, ha]
    exact slotResetResponse_read (placeOffset_base_add hoff) n

end Sys2Proof.Machine
end

section
/-! The sequencer step in closed form (R180): STATE moves by `nextState`, and each other field
changes in one state only. -/

namespace Sys2Proof.Machine

/-- STATE after a sequencer step: the transition summary of 44_orchestrator.md section 1. -/
def nextState (b : Block) : SeqState :=
  match b.state with
  | .idle => .idle
  | .gate => if b.digits = requiredDigits then .dsc else .idle
  | .dsc => if b.opr = opcode .descr then .idle else .ext
  | .ext => if b.opr = opcode .validate then .load else .idle
  | .load => .red
  | .red => if b.iter = 42 then .chk else .red
  | .chk => if b.opr = opcode .validate ∧ lowByteZero b.temp = true then .bl else .idle
  | .bl => .idle

theorem seqStep_eq (b : Block) : seqStep b = { b with
    state := nextState b
    done := b.done || (busy b && nextState b == .idle)
    lenOk := if b.state = .gate ∧ b.digits = requiredDigits then true else b.lenOk
    crcOk := if b.state = .chk then lowByteZero b.temp else b.crcOk
    black := if b.state = .bl then blacklisted b.fields else b.black
    valid := if b.state = .bl then !blacklisted b.fields else b.valid
    unscr := if b.state = .dsc then descramble b.num else b.unscr
    fields := if b.state = .ext then pack (extract b.unscr) else b.fields
    temp := if b.state = .load then b.unscr
      else if b.state = .red then redStep b.temp b.iter.toNat else b.temp
    iter := if b.state = .load then 0 else if b.state = .red then b.iter + 1 else b.iter } := by
  cases h : b.state with
  | idle =>
    cases b
    cases h
    simp [seqStep, nextState, busy]
  | gate =>
    rw [seqStep_gate h, gateStep]
    by_cases hd : b.digits = requiredDigits <;> simp [nextState, h, hd, busy, finish]
  | dsc =>
    rw [seqStep_dsc h, dscStep]
    by_cases ho : b.opr = opcode .descr <;> simp [nextState, h, ho, busy, finish]
  | ext =>
    rw [seqStep_ext h, extStep]
    by_cases ho : b.opr = opcode .validate <;> simp [nextState, h, ho, busy, finish]
  | load => simp [seqStep_load h, loadStep, nextState, h, busy]
  | red =>
    rw [seqStep_red h, redState]
    by_cases hi : b.iter = 42#6 <;> simp [nextState, h, hi, busy]
  | chk =>
    rw [seqStep_chk h, chkStep]
    by_cases hc : b.opr = opcode .validate ∧ lowByteZero b.temp = true <;>
      simp [nextState, h, hc, busy, finish]
  | bl => simp [seqStep_bl h, blStep, nextState, h, busy, finish]

end Sys2Proof.Machine
end

section
/-! One step inverted: what the access of a slot can leave in the block (R60, R62, R65, R66, R183),
and what the sequencer's part of the slot adds to it (R68, R181). -/

namespace Sys2Proof.Machine

/-- The access, if there is one, is an 8-byte write of `v` that the platform decodes to window
offset `off`. -/
def WritesAt (a : Option Access) (off : Nat) (v : Word) : Prop :=
  ∃ p, a = some (.write p 8 v) ∧ placeOffset p = some off

/-- The blocks an access can leave: one constructor for each effect R65, R66 and R183 name. -/
inductive HostEffect (a : Option Access) (b : Block) : Block → Prop
  | keep : HostEffect a b b
  | acknowledge {v : Word} : WritesAt a 0x08 v → HostEffect a b (acknowledge v b)
  | writeCfg {v : Word} : WritesAt a 0x10 v → HostEffect a b (writeCfg v b)
  | dropped : b.state ≠ .idle → HostEffect a b (busyWrite b)
  | writeNum {v : Word} : b.state = .idle → WritesAt a 0x18 v → HostEffect a b { b with num := v }
  | writeDigits {v : Word} : b.state = .idle → WritesAt a 0x20 v →
      HostEffect a b { b with digits := v }
  | writeUnscr {v : Word} : b.state = .idle → WritesAt a 0x28 v →
      HostEffect a b { b with unscr := v }
  | accepted {w : Word} {i : Instr} : b.state = .idle → WritesAt a 0x00 w → decode w = .ok i →
      HostEffect a b (acceptance i b)
  | illegal {w : Word} : b.state = .idle → WritesAt a 0x00 w → (∀ i, decode w ≠ .ok i) →
      HostEffect a b (illegalCommand b)

theorem accessReg_eq_some {off n : Nat} {r : Reg} (h : accessReg off n = some r) :
    n = 8 ∧ off = regOffset r := by
  have hslot : ∀ k < 8, (regOfSlot k).map regOffset = some (8 * k) := by decide
  have hgood : n = 8 ∧ off % 8 = 0 ∧ off < 0x40 := by
    by_contra hbad
    simp [accessReg_eq_none_iff.mpr hbad] at h
  obtain ⟨hn, halign, hrange⟩ := hgood
  have hdiv := hslot (off / 8) (by omega)
  rw [accessReg, if_pos ⟨hn, halign, hrange⟩] at h
  rw [h, Option.map_some, Option.some_inj] at hdiv
  exact ⟨hn, by omega⟩

/-- A protected write that is not turned away is the write itself (R66). -/
theorem hostEffect_protect {a : Option Access} {b : Block} {f : Block → Block}
    (h : b.state = .idle → HostEffect a b (f b)) : HostEffect a b (protect f b) := by
  by_cases hs : b.state = .idle
  · exact protect_idle f hs ▸ h hs
  · exact protect_busy f hs ▸ .dropped hs

theorem hostEffect_ctrlEffect {a : Option Access} {b : Block} {w : Word} (hw : WritesAt a 0x00 w)
    (hs : b.state = .idle) : HostEffect a b (ctrlEffect w b) := by
  cases hd : decode w with
  | ok i =>
    rw [ctrlEffect, hd]
    exact .accepted hs hw hd
  | error e =>
    rw [ctrlEffect, hd]
    exact .illegal hs hw fun i hi => by simp [hd] at hi

theorem hostEffect_writeEffect {a : Option Access} {b : Block} {r : Reg} {v : Word}
    (hw : WritesAt a (regOffset r) v) : HostEffect a b (writeEffect r v b) := by
  cases r with
  | ctrl => exact hostEffect_protect (hostEffect_ctrlEffect hw)
  | status => exact .acknowledge hw
  | cfg => exact .writeCfg hw
  | num =>
    exact hostEffect_protect (f := fun b => { b with num := v }) fun hs => .writeNum hs hw
  | digits =>
    exact hostEffect_protect (f := fun b => { b with digits := v }) fun hs => .writeDigits hs hw
  | unscr =>
    exact hostEffect_protect (f := fun b => { b with unscr := v }) fun hs => .writeUnscr hs hw
  | temp | fields => exact .keep

/-- What a host access leaves in the block. -/
theorem hostEffect_of_hostAccess {a : Access} {s t : State} (h : hostAccess a s = .next t) :
    HostEffect (some a) s.block t.block := by
  rcases hostAccess_cases a s with ⟨-, hnone⟩ | ⟨off, -, -, hbad⟩ | ⟨off, r, hp, hr, hperformed⟩
  · cases hnone.symm.trans h
    exact .keep
  · cases hbad.symm.trans h
    exact .keep
  rcases hperformed with ⟨p, n, rfl, hread⟩ | ⟨p, n, v, rfl, hwrite⟩
  · cases hread.symm.trans h
    exact .keep
  · cases hwrite.symm.trans h
    obtain ⟨hn, rfl⟩ := accessReg_eq_some hr
    exact hostEffect_writeEffect ⟨p, by rw [← hn]; rfl, hp⟩

theorem hostEffect_of_slotAccess {a : Option Access} {s t : State} (h : slotAccess a s = .next t) :
    HostEffect a s.block t.block := by
  cases a with
  | none =>
    cases h
    exact .keep
  | some a => exact hostEffect_of_hostAccess h

/-- A step takes the next slot and runs it. -/
theorem step_eq_tick (s : State) :
    step s = tick (nextInput s.inputs).1 (s.setInputs (nextInput s.inputs).2) := rfl

/-- A step without reset: the effect of the slot's access, then one sequencer step where the slot
has an edge and a command was running (R68, R181). -/
theorem step_cases_of_not_rst {s s' : State} (h : step s = .next s')
    (hrst : (nextInput s.inputs).1.rst = false) :
    ∃ c, HostEffect (nextInput s.inputs).1.access s.block c ∧
      s'.block = if (nextInput s.inputs).1.seq && busy s.block then seqStep c else c := by
  rw [step_eq_tick] at h
  rcases tick_cases (nextInput s.inputs).1 (s.setInputs (nextInput s.inputs).2) with
    ⟨hreset, -⟩ | ⟨-, t, ht, -, hrun⟩
  · simp [hrst] at hreset
  · cases hrun.symm.trans h
    have heffect := hostEffect_of_slotAccess ht
    exact ⟨t.block, heffect, slotSequencer_block _ t⟩

/-- A step with reset leaves the reset record (R250). -/
theorem step_block_of_rst {s s' : State} (h : step s = .next s')
    (hrst : (nextInput s.inputs).1.rst = true) : s'.block = Block.reset := by
  rw [step_eq_tick] at h
  rcases tick_cases (nextInput s.inputs).1 (s.setInputs (nextInput s.inputs).2) with
    ⟨-, hreset⟩ | ⟨hrun, -⟩
  · cases hreset.symm.trans h
    rfl
  · simp [hrst] at hrun

end Sys2Proof.Machine
end

section
/-! The invariant of the block under each sequencer step (R180). A step that finishes leaves IDLE,
where only the parts without a running command say anything; each other step names what it adds. -/

namespace Sys2Proof.Machine

section
variable {b : Block}

theorem mem_onPath_idle_of_le {o : BitVec 4} (h : o ≤ 5) : o ∈ (onPath .idle).map opcode := by
  decide +revert

/-- In IDLE the invariant is what it says of a block without a running command. -/
theorem inv_of_idle (hs : b.state = .idle) (hlegal : b.LegalValues)
    (hvalid : b.valid = true → b.lenOk = true ∧ b.black = false) (hlayout : b.FieldsLayout) :
    b.Inv where
  legalValues := hlegal
  onPath := by
    rw [Block.OnPath, hs]
    exact mem_onPath_idle_of_le hlegal.1
  doneOnlyAtEnd := absurd hs
  iterInRange := by simp [Block.IterInRange, hs]
  flagsInOrder := ⟨absurd hs, absurd hs, hvalid⟩
  dataInOrder := by simp [Block.DataInOrder, hs, pastDsc, pastExt]
  fieldsLayout := hlayout

theorem finish_inv (hlegal : b.LegalValues)
    (hvalid : b.valid = true → b.lenOk = true ∧ b.black = false) (hlayout : b.FieldsLayout) :
    (finish b).Inv :=
  inv_of_idle rfl hlegal hvalid hlayout

variable (h : b.Inv)
include h

/-- The command of a block is one whose path goes through STATE. -/
theorem opr_mem_of_state {q : SeqState} (hs : b.state = q) : b.opr ∈ (onPath q).map opcode :=
  hs ▸ h.onPath

theorem gate_pass_inv (hs : b.state = .gate) (hd : b.digits = requiredDigits) :
    ({ b with lenOk := true, state := .dsc } : Block).Inv := by
  have hopr : b.opr = opcode .validate := by simpa [onPath] using opr_mem_of_state h hs
  have hbusy : b.state ≠ .idle := by simp [hs]
  obtain ⟨-, hvalidate, -⟩ := h.flagsInOrder
  obtain ⟨hblack, hvalid, -, hcrcOk⟩ := hvalidate hbusy hopr
  exact
    { legalValues := h.legalValues
      onPath := by simp [Block.OnPath, onPath, hopr]
      doneOnlyAtEnd := fun _ => h.doneOnlyAtEnd hbusy
      iterInRange := by simp [Block.IterInRange]
      flagsInOrder := by simpa [Block.FlagsInOrder, hopr, opcode, hblack, hvalid, hs] using hcrcOk
      dataInOrder := by simp [Block.DataInOrder, hd, pastDsc, pastExt]
      fieldsLayout := h.fieldsLayout }

theorem dsc_ext_inv (hs : b.state = .dsc) (ho : b.opr ≠ opcode .descr) :
    ({ b with unscr := descramble b.num, state := .ext } : Block).Inv := by
  have hbusy : b.state ≠ .idle := by simp [hs]
  have hopr := opr_mem_of_state h hs
  obtain ⟨-, -, hdigits, -⟩ := h.dataInOrder
  exact
    { legalValues := h.legalValues
      onPath := List.mem_cons_of_mem _ (List.mem_of_ne_of_mem ho hopr)
      doneOnlyAtEnd := fun _ => h.doneOnlyAtEnd hbusy
      iterInRange := by simp [Block.IterInRange]
      flagsInOrder := by simpa [Block.FlagsInOrder, hs] using h.flagsInOrder
      dataInOrder := by simpa [Block.DataInOrder, pastExt] using hdigits (.inl hs)
      fieldsLayout := h.fieldsLayout }

theorem ext_load_inv (hs : b.state = .ext) (ho : b.opr = opcode .validate) :
    ({ b with fields := pack (extract b.unscr), state := .load } : Block).Inv := by
  have hbusy : b.state ≠ .idle := by simp [hs]
  obtain ⟨hunscr, -, hdigits, -⟩ := h.dataInOrder
  have hdescrambled := hunscr (by rw [hs]; rfl) (.inr ho)
  have hlength := hdigits (.inr hs) ho
  exact
    { legalValues := h.legalValues
      onPath := by simp [Block.OnPath, onPath, ho]
      doneOnlyAtEnd := fun _ => h.doneOnlyAtEnd hbusy
      iterInRange := by simp [Block.IterInRange]
      flagsInOrder := by simpa [Block.FlagsInOrder, hs] using h.flagsInOrder
      dataInOrder := by simp [Block.DataInOrder, hdescrambled, hlength]
      fieldsLayout := pack_and_not_layout _ }

theorem load_inv (hs : b.state = .load) :
    ({ b with temp := b.unscr, iter := 0, state := .red } : Block).Inv := by
  have hbusy : b.state ≠ .idle := by simp [hs]
  obtain ⟨hop, -, herr⟩ := h.legalValues
  obtain ⟨hunscr, hfields, -⟩ := h.dataInOrder
  rw [hs] at hunscr hfields
  exact
    { legalValues := ⟨hop, by simp, herr⟩
      onPath := opr_mem_of_state (q := .load) h hs
      doneOnlyAtEnd := fun _ => h.doneOnlyAtEnd hbusy
      iterInRange := by simp [Block.IterInRange]
      flagsInOrder := by simpa [Block.FlagsInOrder, hs] using h.flagsInOrder
      dataInOrder := ⟨hunscr, hfields, by simp⟩
      fieldsLayout := h.fieldsLayout }

theorem red_inv (hs : b.state = .red) (hi : b.iter ≠ 42) :
    ({ b with temp := redStep b.temp b.iter.toNat, iter := b.iter + 1 } : Block).Inv := by
  obtain ⟨hop, -, herr⟩ := h.legalValues
  obtain ⟨hunscr, hfields, -, htemp, -⟩ := h.dataInOrder
  obtain ⟨hrange, -⟩ := h.iterInRange
  have hle := hrange hs
  have hnext : b.iter + 1 ≤ 42 := by bv_omega
  have hcount : (b.iter + 1).toNat = b.iter.toNat + 1 := by bv_omega
  have hreduced : redStep b.temp b.iter.toNat = reduce b.unscr (b.iter + 1).toNat := by
    rw [hcount, reduce_succ, ← htemp hs]
  exact
    { legalValues := ⟨hop, by bv_omega, herr⟩
      onPath := h.onPath
      doneOnlyAtEnd := h.doneOnlyAtEnd
      iterInRange := ⟨fun _ => hnext, by simp [hs]⟩
      flagsInOrder := h.flagsInOrder
      dataInOrder := ⟨hunscr, hfields, by simp [hs], fun _ => hreduced,
        by simp [hs], by simp [hs]⟩
      fieldsLayout := h.fieldsLayout }

theorem red_last_inv (hs : b.state = .red) (hi : b.iter = 42) :
    ({ b with temp := redStep b.temp 42, iter := 43, state := .chk } : Block).Inv := by
  have hbusy : b.state ≠ .idle := by simp [hs]
  obtain ⟨hop, -, herr⟩ := h.legalValues
  obtain ⟨hunscr, hfields, -, htemp, -⟩ := h.dataInOrder
  have hreduced : redStep b.temp 42 = reduce b.unscr crcIters := by
    rw [htemp hs, hi]
    rfl
  rw [hs] at hunscr hfields
  exact
    { legalValues := ⟨hop, by simp, herr⟩
      onPath := opr_mem_of_state (q := .red) h hs
      doneOnlyAtEnd := fun _ => h.doneOnlyAtEnd hbusy
      iterInRange := by simp [Block.IterInRange]
      flagsInOrder := by simpa [Block.FlagsInOrder, hs] using h.flagsInOrder
      dataInOrder := ⟨hunscr, hfields, by simp, by simp, fun _ => hreduced, by simp⟩
      fieldsLayout := h.fieldsLayout }

theorem chk_pass_inv (hs : b.state = .chk) (ho : b.opr = opcode .validate)
    (hc : lowByteZero b.temp = true) : ({ b with crcOk := true, state := .bl } : Block).Inv := by
  have hbusy : b.state ≠ .idle := by simp [hs]
  obtain ⟨-, hiter⟩ := h.iterInRange
  obtain ⟨-, hvalidate, hvalid⟩ := h.flagsInOrder
  obtain ⟨hblack, hvalid, hlenOk, -⟩ := hvalidate hbusy ho
  obtain ⟨hunscr, hfields, -, -, htemp, -⟩ := h.dataInOrder
  have hreduced := htemp (.inl hs)
  rw [hs] at hunscr hfields
  exact
    { legalValues := h.legalValues
      onPath := by simp [Block.OnPath, onPath, ho]
      doneOnlyAtEnd := fun _ => h.doneOnlyAtEnd hbusy
      iterInRange := ⟨by simp, fun _ => hiter (.inl hs)⟩
      flagsInOrder := by simpa [Block.FlagsInOrder, ho, opcode, hblack, hvalid, hs] using hlenOk
      dataInOrder := ⟨hunscr, hfields, by simp, by simp, fun _ => hreduced,
        fun _ => by rw [isChecksumValid, ← hreduced, hc]⟩
      fieldsLayout := h.fieldsLayout }

/-- The blacklist gate sets VALID where BLACK stays 0, and LEN_OK has been 1 since state GATE
(R188). -/
theorem blStep_inv (hs : b.state = .bl) : (blStep b).Inv := by
  have hopr : b.opr = opcode .validate := by simpa [onPath] using opr_mem_of_state h hs
  obtain ⟨-, hvalidate, -⟩ := h.flagsInOrder
  obtain ⟨-, -, hlenOk, -⟩ := hvalidate (by simp [hs]) hopr
  refine finish_inv h.legalValues (fun hvalid => ?_) h.fieldsLayout
  exact ⟨hlenOk.mpr (by simp [hs]), by simpa using hvalid⟩

/-- The sequencer keeps the invariant: each step from its state. -/
theorem seqStep_inv : (seqStep b).Inv := by
  obtain ⟨-, -, hvalid⟩ := h.flagsInOrder
  cases hs : b.state with
  | idle => rwa [seqStep_idle hs]
  | gate =>
    by_cases hd : b.digits = requiredDigits
    · exact seqStep_gate_pass hs hd ▸ gate_pass_inv h hs hd
    · exact seqStep_gate_fail hs hd ▸ finish_inv h.legalValues hvalid h.fieldsLayout
  | dsc =>
    by_cases ho : b.opr = opcode .descr
    · exact seqStep_dsc_descr hs ho ▸ finish_inv h.legalValues hvalid h.fieldsLayout
    · exact seqStep_dsc_ext hs ho ▸ dsc_ext_inv h hs ho
  | ext =>
    by_cases ho : b.opr = opcode .validate
    · exact seqStep_ext_load hs ho ▸ ext_load_inv h hs ho
    · exact seqStep_ext_finish hs ho ▸ finish_inv h.legalValues hvalid (pack_and_not_layout _)
  | load => exact seqStep_load hs ▸ load_inv h hs
  | red =>
    by_cases hi : b.iter = 42
    · exact seqStep_red_last hs hi ▸ red_last_inv h hs hi
    · exact seqStep_red_of_ne hs hi ▸ red_inv h hs hi
  | chk =>
    by_cases hc : b.opr = opcode .validate ∧ lowByteZero b.temp = true
    · obtain ⟨ho, hzero⟩ := hc
      exact seqStep_chk_pass hs ho hzero ▸ chk_pass_inv h hs ho hzero
    · rw [seqStep_chk hs, chkStep, if_neg hc]
      exact finish_inv h.legalValues hvalid h.fieldsLayout
  | bl => exact seqStep_bl hs ▸ blStep_inv h hs

end

/-! The invariant under the host's accesses and over a whole step. -/

theorem opcode_le_five (i : Instr) : opcode i ≤ 5 := by
  cases i <;> decide

/-- Acceptance clears what a running command must find cleared (R183, R185). -/
theorem acceptance_inv {b : Block} (h : b.Inv) (hs : b.state = .idle) (i : Instr) :
    (acceptance i b).Inv := by
  obtain ⟨-, hiter, herr⟩ := h.legalValues
  obtain ⟨-, -, hvalid⟩ := h.flagsInOrder
  cases i with
  | nop => exact inv_of_idle hs ⟨opcode_le_five .nop, hiter, herr⟩ hvalid h.fieldsLayout
  | descr | extr | decode | crc | validate =>
    exact
      { legalValues := ⟨opcode_le_five _, hiter, herr⟩
        onPath := by simp [Block.OnPath, acceptance, onPath]
        doneOnlyAtEnd := fun _ => by simp [acceptance]
        iterInRange := by simp [Block.IterInRange, acceptance]
        flagsInOrder := by simp +contextual [Block.FlagsInOrder, acceptance, opcode, hvalid]
        dataInOrder := by simp [Block.DataInOrder, acceptance, opcode, pastDsc, pastExt]
        fieldsLayout := h.fieldsLayout }

theorem recordErr_legalValues {b : Block} (h : b.LegalValues) {c : ErrCode} (hc : c ≠ .noError) :
    (recordErr c b).LegalValues := by
  obtain ⟨hop, hiter, herr⟩ := h
  refine ⟨hop, hiter, ?_⟩
  cases he : b.err with
  | false => simp [he, hc]
  | true => simp [he, ← herr]

/-- A host access keeps the invariant: what it changes while a command runs is DONE, the error
record and IE (R66). -/
theorem hostEffect_inv {a : Option Access} {b c : Block} (h : b.Inv) (hc : HostEffect a b c) :
    c.Inv := by
  obtain ⟨hop, hiter, herr⟩ := h.legalValues
  obtain ⟨-, -, hvalid⟩ := h.flagsInOrder
  cases hc with
  | keep => exact h
  | @acknowledge v hw =>
    exact
      { h with
        legalValues := ⟨hop, hiter, by cases hbit : v.getLsbD 2 <;> simp [hbit, herr]⟩
        doneOnlyAtEnd := fun hs => by simp [h.doneOnlyAtEnd hs] }
  | writeCfg hw => exact { h with }
  | dropped hs => exact { h with legalValues := recordErr_legalValues h.legalValues (by decide) }
  | writeNum hs hw => exact inv_of_idle hs h.legalValues hvalid h.fieldsLayout
  | writeDigits hs hw => exact inv_of_idle hs h.legalValues hvalid h.fieldsLayout
  | writeUnscr hs hw => exact inv_of_idle hs h.legalValues hvalid h.fieldsLayout
  | accepted hs hw hd => exact acceptance_inv h hs _
  | illegal hs hw hd =>
    have hlegal := recordErr_legalValues (c := .illegalCmd) h.legalValues (by decide)
    exact inv_of_idle hs hlegal hvalid h.fieldsLayout

theorem reset_inv : Block.reset.Inv :=
  inv_of_idle rfl (by decide) (by decide) (by decide)

/-- Settles O38: the reset record is idle. -/
theorem resetMeetsTheInvariant : Obligations.ResetMeetsTheInvariant := reset_inv

/-- Settles O39: a reset leaves the reset record, and any other step is a host effect followed by at
most one sequencer step. -/
theorem everyStepKeepsTheInvariant : Obligations.EveryStepKeepsTheInvariant := by
  intro s s' hinv hstep
  cases hrst : (nextInput s.inputs).1.rst with
  | true =>
    rw [State.Inv, step_block_of_rst hstep hrst]
    exact reset_inv
  | false =>
    obtain ⟨c, hc, hblock⟩ := step_cases_of_not_rst hstep hrst
    have hcinv : c.Inv := hostEffect_inv hinv hc
    rw [State.Inv, hblock]
    split
    · exact seqStep_inv hcinv
    · exact hcinv

end Sys2Proof.Machine
end

section
/-! What each host effect changes, register by register (R25 to R37, R41, R65, R66). -/

namespace Sys2Proof.Machine

/-- Acceptance touches no data register, nor ITER, the error record or IE (R92, R183). -/
theorem acceptance_keeps (i : Instr) (b : Block) :
    (acceptance i b).num = b.num ∧ (acceptance i b).digits = b.digits ∧
    (acceptance i b).unscr = b.unscr ∧ (acceptance i b).temp = b.temp ∧
    (acceptance i b).fields = b.fields ∧ (acceptance i b).iter = b.iter ∧
    (acceptance i b).ie = b.ie ∧ (acceptance i b).err = b.err ∧ (acceptance i b).errc = b.errc := by
  cases i <;> exact ⟨rfl, rfl, rfl, rfl, rfl, rfl, rfl, rfl, rfl⟩

theorem acceptance_opr (i : Instr) (b : Block) : (acceptance i b).opr = opcode i := by
  cases i <;> rfl

/-- Every command but NOP leaves IDLE at its acceptance, with DONE cleared (R183, R189). -/
theorem acceptance_busy {i : Instr} (hi : i ≠ .nop) (b : Block) :
    (acceptance i b).state ≠ .idle ∧ (acceptance i b).done = false := by
  cases i with
  | nop => exact absurd rfl hi
  | descr | extr | decode | crc | validate => simp [acceptance]

/-- Only CRC and VALIDATE clear result flags (R185). -/
theorem acceptance_keeps_flags {i : Instr} (hi : i ≠ .validate) (b : Block) :
    (acceptance i b).lenOk = b.lenOk ∧ (acceptance i b).black = b.black ∧
    (acceptance i b).valid = b.valid ∧ (i ≠ .crc → (acceptance i b).crcOk = b.crcOk) := by
  cases i with
  | validate => exact absurd rfl hi
  | crc => exact ⟨rfl, rfl, rfl, absurd rfl⟩
  | nop | descr | extr | decode => exact ⟨rfl, rfl, rfl, fun _ => rfl⟩

section
variable {a : Option Access} {b c : Block} (h : HostEffect a b c)
include h

/-- While a command runs, a host access changes DONE, the error record and IE at most (R66). -/
theorem hostEffect_busy (hs : b.state ≠ .idle) :
    ∃ done err errc ie, c = { b with done := done, err := err, errc := errc, ie := ie } := by
  cases h with
  | keep | acknowledge | writeCfg | dropped => exact ⟨_, _, _, _, rfl⟩
  | writeNum hidle | writeDigits hidle | writeUnscr hidle | accepted hidle | illegal hidle =>
    exact absurd hidle hs

/-- STATE moves under the host only by the acceptance of a command other than NOP. -/
theorem hostEffect_state : c.state = b.state ∨ b.state = .idle ∧
    ∃ w i, WritesAt a 0x00 w ∧ decode w = .ok i ∧ i ≠ .nop ∧ c = acceptance i b := by
  cases h with
  | @accepted w i hs hw hd =>
    by_cases hi : i = .nop
    · exact .inl (hi ▸ rfl)
    · exact .inr ⟨hs, w, i, hw, hd, hi, rfl⟩
  | _ => exact .inl rfl

theorem hostEffect_opr : c.opr = b.opr ∨ b.state = .idle ∧
    ∃ w i, WritesAt a 0x00 w ∧ decode w = .ok i ∧ c.opr = opcode i := by
  cases h with
  | accepted hs hw hd => exact .inr ⟨hs, _, _, hw, hd, acceptance_opr _ b⟩
  | _ => exact .inl rfl

theorem hostEffect_num : c.num = b.num ∨ b.state = .idle ∧ WritesAt a 0x18 c.num := by
  cases h with
  | writeNum hs hw => exact .inr ⟨hs, hw⟩
  | accepted =>
    obtain ⟨hnum, -⟩ := acceptance_keeps _ b
    exact .inl hnum
  | _ => exact .inl rfl

theorem hostEffect_digits : c.digits = b.digits ∨ b.state = .idle ∧ WritesAt a 0x20 c.digits := by
  cases h with
  | writeDigits hs hw => exact .inr ⟨hs, hw⟩
  | accepted =>
    obtain ⟨-, hdigits, -⟩ := acceptance_keeps _ b
    exact .inl hdigits
  | _ => exact .inl rfl

theorem hostEffect_unscr : c.unscr = b.unscr ∨ b.state = .idle ∧ WritesAt a 0x28 c.unscr := by
  cases h with
  | writeUnscr hs hw => exact .inr ⟨hs, hw⟩
  | accepted =>
    obtain ⟨-, -, hunscr, -⟩ := acceptance_keeps _ b
    exact .inl hunscr
  | _ => exact .inl rfl

theorem hostEffect_ie : c.ie = b.ie ∨ ∃ v, WritesAt a 0x10 v ∧ c.ie = v.getLsbD 0 := by
  cases h with
  | writeCfg hw => exact .inr ⟨_, hw, rfl⟩
  | accepted =>
    obtain ⟨-, -, -, -, -, -, hie, -⟩ := acceptance_keeps _ b
    exact .inl hie
  | _ => exact .inl rfl

/-- No host access changes ITER, TEMP or FIELDS (R41). -/
theorem hostEffect_keeps : c.iter = b.iter ∧ c.temp = b.temp ∧ c.fields = b.fields := by
  cases h with
  | accepted =>
    obtain ⟨-, -, -, htemp, hfields, hiter, -⟩ := acceptance_keeps _ b
    exact ⟨hiter, htemp, hfields⟩
  | _ => exact ⟨rfl, rfl, rfl⟩

/-- ERR set stays set with its code, unless STATUS is written with bit 2 set (R26, R232). -/
theorem hostEffect_err (herr : b.err = true) : c.err = true ∧ c.errc = b.errc ∨
    ∃ v, WritesAt a 0x08 v ∧ v.getLsbD 2 = true ∧ c.err = false ∧ c.errc = .noError := by
  cases h with
  | @acknowledge v hw =>
    by_cases hbit : v.getLsbD 2 = true
    · exact .inr ⟨v, hw, hbit, if_pos hbit, if_pos hbit⟩
    · exact .inl ⟨(if_neg hbit).trans herr, if_neg hbit⟩
  | accepted =>
    obtain ⟨-, -, -, -, -, -, -, hkeep, hcode⟩ := acceptance_keeps _ b
    exact .inl ⟨hkeep.trans herr, hcode⟩
  | dropped | illegal => simp [herr]
  | _ => exact .inl ⟨herr, rfl⟩

/-- The host's ways to change DONE: a CTRL write in IDLE, and a write of STATUS with bit 1 set
(R25). -/
theorem hostEffect_done : c.done = b.done ∨
    (c.done = true ∧ b.state = .idle ∧ ∃ w, WritesAt a 0x00 w ∧ ∀ i, decode w = .ok i → i = .nop) ∨
    (c.done = false ∧ b.state = .idle ∧ c.state ≠ .idle) ∨
    (c.done = false ∧ ∃ v, WritesAt a 0x08 v ∧ v.getLsbD 1 = true) := by
  cases h with
  | @acknowledge v hw =>
    by_cases hbit : v.getLsbD 1 = true
    · exact .inr (.inr (.inr ⟨if_pos hbit, v, hw, hbit⟩))
    · exact .inl (if_neg hbit)
  | @accepted w i hs hw hd =>
    by_cases hi : i = .nop
    · subst hi
      exact .inr (.inl ⟨rfl, hs, w, hw, fun j hj => by simpa [hd] using hj.symm⟩)
    · obtain ⟨hstate, hdone⟩ := acceptance_busy hi b
      exact .inr (.inr (.inl ⟨hdone, hs, hstate⟩))
  | illegal hs hw hd => exact .inr (.inl ⟨rfl, hs, _, hw, fun i hi => absurd hi (hd i)⟩)
  | _ => exact .inl rfl

/-- The host changes result flags only by an acceptance that clears them (R27, R185). -/
theorem hostEffect_flags :
    (c.lenOk = b.lenOk ∧ c.crcOk = b.crcOk ∧ c.black = b.black ∧ c.valid = b.valid) ∨
    b.state = .idle ∧ (c = acceptance .crc b ∨ c = acceptance .validate b) := by
  cases h with
  | @accepted w i hs hw hd =>
    by_cases hvalidate : i = .validate
    · exact .inr ⟨hs, .inr (hvalidate ▸ rfl)⟩
    by_cases hcrc : i = .crc
    · exact .inr ⟨hs, .inl (hcrc ▸ rfl)⟩
    obtain ⟨hlenOk, hblack, hvalid, hcrcOk⟩ := acceptance_keeps_flags hvalidate b
    exact .inl ⟨hlenOk, hcrcOk hcrc, hblack, hvalid⟩
  | _ => exact .inl ⟨rfl, rfl, rfl, rfl⟩

end

/-! The sequencer's part. -/

/-- The rows of the transition summary of 44_orchestrator.md section 1, as pairs of states. -/
def transitionRows : List (SeqState × SeqState) :=
  [(.idle, .dsc), (.idle, .ext), (.idle, .load), (.idle, .gate), (.gate, .dsc), (.gate, .idle),
    (.dsc, .idle), (.dsc, .ext), (.ext, .load), (.ext, .idle), (.load, .red), (.red, .chk),
    (.chk, .bl), (.chk, .idle), (.bl, .idle)]

theorem nextState_row (b : Block) :
    nextState b = b.state ∨ (b.state, nextState b) ∈ transitionRows := by
  unfold nextState
  cases b.state with
  | idle | load | bl => simp [transitionRows]
  | gate | dsc | ext | red | chk =>
    dsimp only
    split <;> simp [transitionRows]

theorem acceptance_row {i : Instr} (hi : i ≠ .nop) (b : Block) :
    (SeqState.idle, (acceptance i b).state) ∈ transitionRows := by
  cases i with
  | nop => exact absurd rfl hi
  | descr | extr | decode | crc | validate => simp [acceptance, transitionRows]

theorem seqStep_state (b : Block) : (seqStep b).state = nextState b := by
  rw [seqStep_eq]

/-- A step that leaves a running command in IDLE sets DONE (R182). -/
theorem seqStep_done_of_idle {b : Block} (hs : b.state ≠ .idle) (hnext : nextState b = .idle) :
    (seqStep b).done = true := by
  simp [seqStep_eq, busy_eq_true.mpr hs, hnext]

/-- A step that does not end a command leaves DONE alone (R25). -/
theorem seqStep_done_of_ne_idle {b : Block} (hnext : nextState b ≠ .idle) :
    (seqStep b).done = b.done := by
  simp [seqStep_eq, hnext]

end Sys2Proof.Machine
end

section
/-! Safety of every step (R25 to R37, R41): the host effect of the slot, and the sequencer step
after it. -/

namespace Sys2Proof.Machine

/-- A step has a next state, and it waits for the inputs after the slot taken. -/
theorem step_next (s : State) : ∃ s', step s = .next s' ∧ s'.inputs = (nextInput s.inputs).2 := by
  rw [step_eq_tick]
  rcases tick_cases (nextInput s.inputs).1 (s.setInputs (nextInput s.inputs).2) with
    ⟨-, hreset⟩ | ⟨-, t, -, hinputs, hrun⟩
  · exact ⟨_, hreset, rfl⟩
  · exact ⟨_, hrun, (slotSequencer_inputs _ t).trans hinputs⟩

/-- Settles O7: a slot always leads on, and exec is CtrlWrite. -/
theorem nothingStopsTheBlock : Obligations.NothingStopsTheBlock := by
  refine ⟨fun s => ?_, fun i s => ⟨_, exec_eq i s⟩⟩
  obtain ⟨s', hs', -⟩ := step_next s
  exact ⟨s', hs'⟩

section
variable {s s' : State} (h : step s = .next s') (hrst : (nextInput s.inputs).1.rst = false)
include h hrst

/-- A step in IDLE is the host effect alone (R186, R261). -/
theorem step_idle (hs : s.block.state = .idle) :
    HostEffect (nextInput s.inputs).1.access s.block s'.block := by
  obtain ⟨c, hc, hblock⟩ := step_cases_of_not_rst h hrst
  rw [hblock, busy_eq_false.mpr hs, Bool.and_false]
  exact hc

/-- A step while a command runs is a host effect, and one sequencer step if the slot has an edge. -/
theorem step_busy (hs : s.block.state ≠ .idle) :
    ∃ c, HostEffect (nextInput s.inputs).1.access s.block c ∧
      s'.block = if (nextInput s.inputs).1.seq then seqStep c else c := by
  obtain ⟨c, hc, hblock⟩ := step_cases_of_not_rst h hrst
  rw [busy_eq_true.mpr hs, Bool.and_true] at hblock
  exact ⟨c, hc, hblock⟩

end

/-- Settles O18: the host's write reaches neither STATE nor what STATE depends on, and the finish
after it sets DONE. -/
theorem finishBeatsAcknowledge : Obligations.FinishBeatsAcknowledge := by
  intro s v rest hs hfinish hinputs
  obtain ⟨s', hstep, -⟩ := step_next s
  have hslot : (nextInput s.inputs).1 = ⟨false, some (.write (.offset 0x08) 8 v), true⟩ := by
    rw [hinputs, nextInput]
  obtain ⟨c, hc, hblock⟩ := step_busy hstep (by rw [hslot]) hs
  obtain ⟨done, err, errc, ie, rfl⟩ := hostEffect_busy hc hs
  rw [seqStep_state] at hfinish
  rw [hslot, if_pos rfl] at hblock
  refine ⟨s', hstep, ?_, ?_⟩ <;> rw [hblock]
  · exact seqStep_done_of_idle hs hfinish
  · exact (seqStep_state _).trans hfinish

/-- Settles O31: in IDLE by the host effect, otherwise by the row of the sequencer step. -/
theorem stateMovesAlongTheTable : Obligations.StateMovesAlongTheTable := by
  intro s s' hstep hrst
  by_cases hs : s.block.state = .idle
  · rcases hostEffect_state (step_idle hstep hrst hs) with
      hkeep | ⟨-, w, i, ⟨p, ha, hp⟩, hd, hi, haccept⟩
    · exact .inl hkeep
    · obtain ⟨-, hdone⟩ := acceptance_busy hi s.block
      rw [haccept, hs]
      have hopr := acceptance_opr i s.block
      exact .inr ⟨acceptance_row hi _, fun _ => ⟨p, w, i, ha, hp, hd, hi, hopr, hdone⟩⟩
  · obtain ⟨c, hc, hblock⟩ := step_busy hstep hrst hs
    obtain ⟨done, err, errc, ie, rfl⟩ := hostEffect_busy hc hs
    rw [hblock]
    split
    · rw [seqStep_state]
      rcases nextState_row s.block with hkeep | hrow
      · exact .inl hkeep
      · exact .inr ⟨hrow, fun hidle => absurd hidle hs⟩
    · exact .inl rfl

/-- Settles O32: the sequencer keeps the error record, and the host clears it only through STATUS.
-/
theorem errIsSticky : Obligations.ErrIsSticky := by
  refine ⟨fun b => ?_, fun s s' hstep herr => ?_⟩
  · obtain ⟨-, hkeep, hcode, -⟩ := seqStep_keeps b
    exact ⟨hkeep, hcode⟩
  cases hrst : (nextInput s.inputs).1.rst with
  | true => exact .inr (.inl rfl)
  | false =>
    obtain ⟨c, hc, hblock⟩ := step_cases_of_not_rst hstep hrst
    obtain ⟨herr', hcode'⟩ : s'.block.err = c.err ∧ s'.block.errc = c.errc := by
      obtain ⟨-, hkeep, hcode, -⟩ := seqStep_keeps c
      rw [hblock]
      split
      · exact ⟨hkeep, hcode⟩
      · exact ⟨rfl, rfl⟩
    rw [herr', hcode']
    rcases hostEffect_err hc herr with hkeep | ⟨v, ⟨p, ha, hp⟩, hbit, hclear⟩
    · exact .inl hkeep
    · exact .inr (.inr ⟨p, v, ha, hp, hbit, hclear⟩)

/-- A step either finishes the running command or leaves DONE as the host effect did. -/
theorem step_done {s s' : State} (h : step s = .next s')
    (hrst : (nextInput s.inputs).1.rst = false) :
    (s.block.state ≠ .idle ∧ s'.block.done = true ∧ s'.block.state = .idle) ∨
    ∃ c, HostEffect (nextInput s.inputs).1.access s.block c ∧ s'.block.done = c.done ∧
      (s.block.state = .idle → s'.block = c) := by
  by_cases hs : s.block.state = .idle
  · exact .inr ⟨s'.block, step_idle h hrst hs, rfl, fun _ => rfl⟩
  obtain ⟨c, hc, hblock⟩ := step_busy h hrst hs
  have hbusy : c.state ≠ .idle := by
    obtain ⟨done, err, errc, ie, rfl⟩ := hostEffect_busy hc hs
    exact hs
  rw [hblock]
  split
  · by_cases hnext : nextState c = .idle
    · exact .inl ⟨hs, seqStep_done_of_idle hbusy hnext, (seqStep_state c).trans hnext⟩
    · exact .inr ⟨c, hc, seqStep_done_of_ne_idle hnext, fun hidle => absurd hidle hs⟩
  · exact .inr ⟨c, hc, rfl, fun _ => rfl⟩

/-- Settles O33: a finish sets DONE last; otherwise DONE is as the host effect left it. -/
theorem doneIsWrittenThreeWays : Obligations.DoneIsWrittenThreeWays := by
  intro s s' hstep hrst
  rcases step_done hstep hrst with ⟨hs, hdone, hidle⟩ | ⟨c, hc, hdone, hidle⟩
  · exact .inr (.inl ⟨hdone, hs, hidle⟩)
  rw [hdone]
  rcases hostEffect_done hc with hkeep | ⟨hset, hs, w, ⟨p, ha, hp⟩, hw⟩ | ⟨hclear, hs, hbusy⟩ |
    ⟨hclear, v, ⟨p, ha, hp⟩, hbit⟩
  · exact .inl hkeep
  · exact .inr (.inr (.inl ⟨hset, hs, p, w, ha, hp, hw⟩))
  · exact .inr (.inr (.inr (.inl ⟨hclear, hs, hidle hs ▸ hbusy⟩)))
  · exact .inr (.inr (.inr (.inr ⟨hclear, p, v, ha, hp, hbit⟩)))

/-- The sequencer writes each result flag in one state (R27, R170, R187, R188). -/
theorem seqStep_flags (b : Block) :
    ((seqStep b).lenOk = b.lenOk ∨
      b.state = .gate ∧ b.digits = requiredDigits ∧ (seqStep b).lenOk = true) ∧
    ((seqStep b).crcOk = b.crcOk ∨ b.state = .chk ∧ (seqStep b).crcOk = lowByteZero b.temp) ∧
    ((seqStep b).black = b.black ∨ b.state = .bl ∧ (seqStep b).black = blacklisted b.fields) ∧
    ((seqStep b).valid = b.valid ∨ b.state = .bl ∧ (seqStep b).valid = !blacklisted b.fields) := by
  rw [seqStep_eq]
  refine ⟨?_, ?_, ?_, ?_⟩ <;> dsimp only <;> split
  case refine_1.isTrue hgate =>
    obtain ⟨hs, hd⟩ := hgate
    exact .inr ⟨hs, hd, rfl⟩
  case refine_2.isTrue hs | refine_3.isTrue hs | refine_4.isTrue hs => exact .inr ⟨hs, rfl⟩
  all_goals exact .inl rfl

/-- The test of R160 as a test on the low byte. -/
theorem lowByteZero_eq_decide_setWidth (temp : Word) :
    lowByteZero temp = decide (temp.setWidth 8 = 0) := by
  have hbyte : temp.toNat &&& 255 = temp.toNat % 2 ^ 8 := Nat.and_two_pow_sub_one_eq_mod _ 8
  rw [lowByteZero_eq_decide]
  simp [BitVec.toNat_eq, hbyte]

theorem blacklisted_eq_decide (fields : Word) :
    blacklisted fields = decide (fields.setWidth 32 = 0x0403AC68) := rfl

theorem not_blacklisted_eq_decide (fields : Word) :
    (!blacklisted fields) = decide (fields.setWidth 32 ≠ 0x0403AC68) := by
  rw [blacklisted_eq_decide, decide_not]

/-- Settles O34: the host changes flags in IDLE only, by an acceptance, and the sequencer in its
states. -/
theorem resultFlagsChangeAtTheirPoints : Obligations.ResultFlagsChangeAtTheirPoints := by
  intro s s' hstep hrst
  by_cases hs : s.block.state = .idle
  · rcases hostEffect_flags (step_idle hstep hrst hs) with hkeep | ⟨-, hcrc | hvalidate⟩
    · simp [hkeep]
    · simp [hcrc, acceptance, hs]
    · simp [hvalidate, acceptance, hs]
  obtain ⟨c, hc, hblock⟩ := step_busy hstep hrst hs
  obtain ⟨done, err, errc, ie, rfl⟩ := hostEffect_busy hc hs
  rw [hblock]
  split
  · simp only [← lowByteZero_eq_decide_setWidth, ← blacklisted_eq_decide,
      ← not_blacklisted_eq_decide]
    obtain ⟨hlenOk, hcrcOk, hblack, hvalid⟩ := seqStep_flags
      { s.block with done := done, err := err, errc := errc, ie := ie }
    exact ⟨hlenOk.imp_right .inr, hcrcOk.imp_right .inr, hblack.imp_right .inr,
      hvalid.imp_right .inr⟩
  · exact ⟨.inl rfl, .inl rfl, .inl rfl, .inl rfl⟩

/-- The sequencer writes each data register and ITER in the states that name it (R28, R35 to R37).
-/
theorem seqStep_registers (b : Block) :
    ((seqStep b).unscr = b.unscr ∨ b.state = .dsc ∧ (seqStep b).unscr = descramble b.num) ∧
    ((seqStep b).fields = b.fields ∨
      b.state = .ext ∧ (seqStep b).fields = pack (extract b.unscr)) ∧
    ((seqStep b).temp = b.temp ∨ b.state = .load ∧ (seqStep b).temp = b.unscr ∨
      b.state = .red ∧ (seqStep b).temp = redStep b.temp b.iter.toNat) ∧
    ((seqStep b).iter = b.iter ∨ b.state = .load ∧ (seqStep b).iter = 0 ∨
      b.state = .red ∧ (seqStep b).iter = b.iter + 1) := by
  rw [seqStep_eq]
  cases hs : b.state <;> simp

/-- Settles O35: in IDLE the host effect, otherwise the sequencer step, since a running command's
registers are out of the host's reach. -/
theorem whoWritesEachRegister : Obligations.WhoWritesEachRegister := by
  intro s s' hstep hrst
  by_cases hs : s.block.state = .idle
  · have hc := step_idle hstep hrst hs
    obtain ⟨hiter, htemp, hfields⟩ := hostEffect_keeps hc
    refine ⟨hostEffect_num hc, hostEffect_digits hc, (hostEffect_unscr hc).imp_right .inl,
      hostEffect_ie hc, ?opr, .inl hfields, .inl htemp, .inl hiter⟩
    exact (hostEffect_opr hc).imp_right fun ⟨_, w, i, hw, hd, hopr⟩ => ⟨hs, w, i, hw, hd, hopr⟩
  obtain ⟨c, hc, hblock⟩ := step_busy hstep hrst hs
  have hie := hostEffect_ie hc
  obtain ⟨done, err, errc, ie, rfl⟩ := hostEffect_busy hc hs
  rw [hblock]
  split
  · obtain ⟨hopr, -, -, hkeep, hnum, hdigits⟩ := seqStep_keeps
      { s.block with done := done, err := err, errc := errc, ie := ie }
    obtain ⟨hunscr, hfields, htemp, hiter⟩ := seqStep_registers
      { s.block with done := done, err := err, errc := errc, ie := ie }
    exact ⟨.inl hnum, .inl hdigits, hunscr.imp_right .inr, hkeep.symm ▸ hie, .inl hopr, hfields,
      htemp, hiter⟩
  · exact ⟨.inl rfl, .inl rfl, .inl rfl, hie, .inl rfl, .inl rfl, .inl rfl, .inl rfl⟩

/-- Settles O36: OPR and STATE move only at an acceptance, which is a legal CTRL write in IDLE. -/
theorem hostCannotWriteInternals : Obligations.HostCannotWriteInternals := by
  intro a s t h
  have hc := hostEffect_of_hostAccess h
  obtain ⟨hiter, htemp, hfields⟩ := hostEffect_keeps hc
  refine ⟨hiter, htemp, hfields, fun hother => ?_⟩
  have hnot {w : Word} {i : Instr} (hs : s.block.state = .idle) (hw : WritesAt (some a) 0x00 w)
      (hd : decode w = .ok i) : False := by
    obtain ⟨p, ha, hp⟩ := hw
    exact hother ⟨hs, p, w, i, Option.some_inj.mp ha, hp, hd⟩
  exact ⟨(hostEffect_opr hc).resolve_right fun ⟨hs, _, _, hw, hd, _⟩ => hnot hs hw hd,
    (hostEffect_state hc).resolve_right fun ⟨hs, _, _, hw, hd, _⟩ => hnot hs hw hd⟩

end Sys2Proof.Machine
end

section
/-! Completion (R193): the sequencer steps a running command still takes, and their descent. -/

namespace Sys2Proof.Machine

/-- The largest number of sequencer steps a block can still take, by the state in STATE (R194). -/
def stepsLeft (b : Block) : Nat :=
  match b.state with
  | .idle => 0
  | .bl => 1
  | .chk => 2
  | .red => 45 - b.iter.toNat
  | .load => 46
  | .ext => 47
  | .dsc => 48
  | .gate => 49

theorem stepsLeft_le (b : Block) : stepsLeft b ≤ 49 := by
  unfold stepsLeft
  split <;> omega

/-- A sequencer step of a running command brings its end nearer; in RED because ITER is at most 42.
-/
theorem stepsLeft_seqStep_lt {b : Block} (h : b.Inv) (hs : b.state ≠ .idle) :
    stepsLeft (seqStep b) < stepsLeft b := by
  obtain ⟨hred, -⟩ := h.iterInRange
  rw [seqStep_eq]
  cases hstate : b.state with
  | idle => exact absurd hstate hs
  | red =>
    have hiter := hred hstate
    by_cases hi : b.iter = 42#6
    · simp [stepsLeft, nextState, hstate, hi]
    · simp [stepsLeft, nextState, hstate, hi]
      bv_omega
  | load | bl => simp [stepsLeft, nextState, hstate]
  | gate | dsc | ext | chk =>
    simp only [nextState, hstate]
    split <;> simp [stepsLeft, hstate]

theorem exists_seqRun_done {b : Block} (h : b.Inv) (hs : b.state ≠ .idle) :
    ∃ n ≤ stepsLeft b, (seqRun n b).state = .idle ∧ (seqRun n b).done = true := by
  induction hm : stepsLeft b using Nat.strong_induction_on generalizing b with
  | _ m ih =>
    have hlt := stepsLeft_seqStep_lt h hs
    by_cases hnext : nextState b = .idle
    · exact ⟨1, by omega, (seqStep_state b).trans hnext, seqStep_done_of_idle hs hnext⟩
    · have hbusy : (seqStep b).state ≠ .idle := by rwa [seqStep_state]
      obtain ⟨n, hn, hidle, hdone⟩ := ih _ (hm ▸ hlt) (seqStep_inv h) hbusy rfl
      exact ⟨n + 1, by omega, hidle, hdone⟩

/-- Settles O40, by descent on the steps left. -/
theorem everyCommandCompletes : Obligations.EveryCommandCompletes := by
  intro b h hs
  obtain ⟨n, hn, hend⟩ := exists_seqRun_done h hs
  exact ⟨n, hn.trans (stepsLeft_le b), hend⟩

end Sys2Proof.Machine
end

section
/-! A running command's result is independent of the host (R195): the command's view determines the
sequencer step's view, and no host effect changes the view while a command runs. -/

namespace Sys2Proof.Machine

theorem eq_of_commandView_eq {b c : Block} (h : commandView b = commandView c) :
    b = { c with done := b.done, err := b.err, errc := b.errc, ie := b.ie } := by
  cases b
  cases c
  simpa [commandView] using h

theorem commandView_seqStep {b c : Block} (h : commandView b = commandView c) :
    commandView (seqStep b) = commandView (seqStep c) := by
  rw [eq_of_commandView_eq h, seqStep_eq, seqStep_eq]
  rfl

theorem state_eq_of_commandView_eq {b c : Block} (h : commandView b = commandView c) :
    b.state = c.state :=
  congrArg CommandView.state h

/-- A slot without reset moves the view of a running command as its sequencer edge alone does. -/
theorem step_commandView {s s' : State} (h : step s = .next s')
    (hrst : (nextInput s.inputs).1.rst = false) (hs : s.block.state ≠ .idle) :
    commandView s'.block =
      commandView (if (nextInput s.inputs).1.seq then seqStep s.block else s.block) := by
  obtain ⟨c, hc, hblock⟩ := step_busy h hrst hs
  have hview : commandView c = commandView s.block := by
    obtain ⟨done, err, errc, ie, rfl⟩ := hostEffect_busy hc hs
    rfl
  rw [hblock]
  split
  · exact commandView_seqStep hview
  · exact hview

theorem run_succ_of_step {M : Host.Core} {s s' : M.State} (h : M.step s = .next s') (n : Nat) :
    M.run (n + 1) s = M.run n s' := by
  rw [Host.Core.run, h]

theorem core_run_succ {s s' : State} (h : step s = .next s') (n : Nat) :
    Sys2Proof.core.run (n + 1) s = Sys2Proof.core.run n s' :=
  run_succ_of_step (M := Sys2Proof.core) h n

/-- One slot of a run: it moves the view of any block with the same view, and the rest waits. -/
theorem exists_step_commandView {s : State} {t : Tick} {rest : List Tick} {b : Block}
    (hinputs : s.inputs = t :: rest) (hrst : t.rst = false)
    (hview : commandView s.block = commandView b) (hb : b.state ≠ .idle) :
    ∃ s', step s = .next s' ∧ s'.inputs = rest ∧
      commandView s'.block = commandView (if t.seq then seqStep b else b) := by
  obtain ⟨s', hstep, hrest⟩ := step_next s
  have hslot : nextInput s.inputs = (t, rest) := by rw [hinputs, nextInput]
  have hs : s.block.state ≠ .idle := state_eq_of_commandView_eq hview ▸ hb
  have hmove := step_commandView hstep (by rw [hslot]; exact hrst) hs
  rw [hslot] at hrest hmove
  refine ⟨s', hstep, hrest, hmove.trans ?_⟩
  split
  · exact commandView_seqStep hview
  · exact hview

/-- Slots without reset, while the sequencer alone would stay busy, lead the view where their edges
lead. -/
theorem core_run_commandView {last : Tick} {rest : List Tick} (hlast : last.rst = false)
    (hedge : last.seq = true) (ts : List Tick) :
    ∀ (s : State) (b : Block), s.inputs = ts ++ last :: rest →
      commandView s.block = commandView b → (∀ t ∈ ts, t.rst = false) →
      (∀ j, j ≤ ts.countP (fun t => t.seq) → (seqRun j b).state ≠ .idle) →
      ∃ s', Sys2Proof.core.run (ts.length + 1) s = .next s' ∧ s'.inputs = rest ∧
        commandView s'.block = commandView (seqRun (ts.countP (fun t => t.seq) + 1) b) := by
  induction ts with
  | nil =>
    intro s b hinputs hview _ hbusy
    obtain ⟨s', hstep, hrest, hmove⟩ :=
      exists_step_commandView hinputs hlast hview (hbusy 0 (Nat.zero_le _))
    rw [hedge, if_pos rfl] at hmove
    exact ⟨s', core_run_succ hstep 0, hrest, hmove⟩
  | cons t ts ih =>
    intro s b hinputs hview hrst hbusy
    obtain ⟨s₁, hstep, hrest, hmove⟩ :=
      exists_step_commandView hinputs (hrst t List.mem_cons_self) hview (hbusy 0 (Nat.zero_le _))
    have hrst' : ∀ u ∈ ts, u.rst = false := fun u hu => hrst u (List.mem_cons_of_mem t hu)
    rw [List.length_cons, core_run_succ hstep]
    cases hseq : t.seq with
    | true =>
      rw [List.countP_cons_of_pos hseq] at hbusy ⊢
      rw [hseq, if_pos rfl] at hmove
      exact ih s₁ (seqStep b) hrest hmove hrst' fun j hj => hbusy (j + 1) (Nat.succ_le_succ hj)
    | false =>
      rw [List.countP_cons_of_neg (by simp [hseq])] at hbusy ⊢
      rw [hseq, if_neg Bool.false_ne_true] at hmove
      exact ih s₁ b hrest hmove hrst' hbusy

/-- Settles O37: the slots' run seen from the block itself. -/
theorem resultIsIndependentOfHostAccesses : Obligations.ResultIsIndependentOfHostAccesses :=
  fun s ts _ _ hinputs hrst hlast hedge hbusy =>
    core_run_commandView hlast hedge ts s s.block hinputs rfl hrst hbusy

end Sys2Proof.Machine
end

section
/-! The clock slot (R68, R90, R181): a step is the slot's access, then its sequencer part. -/

namespace Sys2Proof.Machine

theorem step_of_slotAccess {s u : State} {t : Tick} {rest : List Tick}
    (hinputs : s.inputs = t :: rest) (hrst : t.rst = false)
    (hu : slotAccess t.access (s.setInputs rest) = .next u) :
    step s = .next (slotSequencer (t.seq && busy s.block) u) := by
  simp [step_cons hinputs, tick, hrst, hu]

/-- The sequencer part of a slot without an edge, or of one that began in IDLE, is nothing. -/
theorem slotSequencer_quiet {edge : Bool} {b : Block} (h : edge = false ∨ b.state = .idle)
    (s : State) : slotSequencer (edge && busy b) s = s := by
  rcases h with rfl | hs
  · rfl
  · rw [busy_eq_false.mpr hs, Bool.and_false]
    rfl

theorem slotSequencer_edge {edge : Bool} {b : Block} (he : edge = true) (hs : b.state ≠ .idle)
    (s : State) : slotSequencer (edge && busy b) s = s.setBlock (seqStep s.block) := by
  rw [he, busy_eq_true.mpr hs]
  rfl

/-- An edge on a block as it was when the slot began is one sequencer step, in IDLE too (R186). -/
theorem slotSequencer_busy (s : State) :
    slotSequencer (busy s.block) s = s.setBlock (seqStep s.block) := by
  by_cases hs : s.block.state = .idle
  · rw [busy_eq_false.mpr hs, seqStep_idle hs]
    rfl
  · rw [busy_eq_true.mpr hs]
    rfl

/-- A slot that carries only a sequencer edge is one sequencer step. -/
theorem tick_quietTick (s : State) :
    tick quietTick s = .next ((s.setResponse none).setBlock (seqStep s.block)) := by
  have hedge := slotSequencer_busy (s.setResponse none)
  simpa [tick, quietTick, slotAccess] using hedge

/-- Settles O6: where no input waits the model takes the quiet slot. -/
theorem quietStepIsOneSequencerStep : Obligations.QuietStepIsOneSequencerStep := by
  refine ⟨fun s hnil => ?_, fun s rest hinputs => ?_, fun b => seqStep_idle⟩
  · rw [step_nil hnil, ← hnil]
    exact tick_quietTick s
  · rw [step_cons hinputs]
    exact tick_quietTick (s.setInputs rest)

theorem ctrlEffect_of_decode {w : Word} {i : Instr} (hw : decode w = .ok i) :
    ctrlEffect w = acceptance i := by
  simp [ctrlEffect, hw]

/-- Settles O5: the write of CTRL in the slot is exec, which is CtrlWrite of the command's word. -/
theorem stepRunsTheDecodedCommand : Obligations.StepRunsTheDecodedCommand := by
  intro s w i edge rest hinputs hw
  have hslot : slotAccess (some (.write (.offset 0x00) 8 w)) (s.setInputs rest) =
      exec i { s with inputs := rest, response := some .done } := by
    rw [exec_eq, ← ctrlEffect_of_decode hw]
    exact hostAccess_write (p := .offset 0x00) rfl (accessReg_regOffset .ctrl) w (s.setInputs rest)
  have hexec := exec_eq i { s with inputs := rest, response := some .done }
  have hstep := step_of_slotAccess hinputs rfl (hslot.trans hexec)
  refine ⟨fun hquiet => ?_, fun he hs => ⟨_, hexec, ?_⟩⟩
  · rw [hstep, slotSequencer_quiet hquiet]
    exact hexec.symm
  · rw [hstep, slotSequencer_edge he hs]
    rfl

/-- Settles O57: the slot's access, by hostAccess, then the slot's sequencer part. -/
theorem stepPerformsTheSlotsAccess : Obligations.StepPerformsTheSlotsAccess := by
  refine ⟨fun s a edge rest hinputs => ?_, fun s rest hinputs => ?_⟩
  · obtain ⟨t, ht, hrest⟩ := hostAccess_next a (s.setInputs rest)
    have hstep := step_of_slotAccess hinputs rfl ht
    refine ⟨t, ht, hrest, fun hquiet => ?_, fun he hs => ?_⟩
    · rw [hstep, slotSequencer_quiet hquiet]
    · rw [hstep, slotSequencer_edge he hs]
      rfl
  · exact step_of_slotAccess hinputs rfl rfl

/-! The register window at BASE (R60). -/

section
variable {p q : Place} (h : placeOffset p = placeOffset q)
include h

/-- The block sees the offset of an access only, not how the access was aimed (R60). -/
theorem hostAccess_read_congr (n : Nat) (s : State) :
    hostAccess (.read p n) s = hostAccess (.read q n) s := by
  simp only [hostAccess, accessPlace, h]
  rfl

theorem hostAccess_write_congr (n : Nat) (v : Word) (s : State) :
    hostAccess (.write p n v) s = hostAccess (.write q n v) s := by
  simp only [hostAccess, accessPlace, h]
  rfl

end

theorem placeOffset_outside {addr : Nat} (h : addr < Config.base ∨ Config.base + 0x40 ≤ addr) :
    placeOffset (.address addr) = none := by
  refine if_neg fun ⟨hlow, hhigh⟩ => ?_
  rw [windowSize] at hhigh
  omega

theorem hostAccess_outside {a : Access} (h : placeOffset (accessPlace a) = none) (s : State) :
    hostAccess a s = .next (s.setResponse none) := by
  simp [hostAccess, h]

/-- Settles O16: the platform turns an address of the window into its offset and keeps the others
away. -/
theorem windowStandsAtBase : Obligations.WindowStandsAtBase := by
  intro s n v
  refine ⟨fun off hoff => ?_, fun addr hout => ?_⟩
  · have hplace : placeOffset (.address (Config.base + off)) = placeOffset (.offset off) :=
      placeOffset_base_add hoff
    exact ⟨hostAccess_read_congr hplace n s, hostAccess_write_congr hplace n v s⟩
  · have hplace := placeOffset_outside hout
    exact ⟨hostAccess_outside (a := .read _ n) hplace s,
      hostAccess_outside (a := .write _ n v) hplace s⟩

end Sys2Proof.Machine
end

section
/-! Acceptance and the sequencer states, said whole (R183 to R191). -/

namespace Sys2Proof.Machine

/-- Settles O28: acceptance while idle, BUSY_WRITE while busy. -/
theorem execFrame : Obligations.ExecFrame := by
  intro i s t h
  rw [exec_eq] at h
  cases h
  by_cases hs : s.block.state = .idle
  · rw [protect_idle _ hs]
    obtain ⟨hnum, hdigits, hunscr, htemp, hfields, hiter, hie, herr, herrc⟩ :=
      acceptance_keeps i s.block
    refine ⟨rfl, rfl, hnum, hdigits, hunscr, htemp, hfields, hiter, hie, fun hi => ?_,
      fun hi hcrc => ?_, fun _ => ⟨herr, herrc⟩, absurd hs⟩ <;>
      obtain ⟨hlenOk, hblack, hvalid, hcrcOk⟩ := acceptance_keeps_flags hi s.block
    · exact ⟨hlenOk, hblack, hvalid⟩
    · exact hcrcOk hcrc
  · rw [protect_busy _ hs]
    simp [hs]

/-- Settles O29, state by state. -/
theorem sequencerStateActions : Obligations.SequencerStateActions := by
  intro b
  refine ⟨seqStep_gate_pass, seqStep_gate_fail, seqStep_dsc_descr, fun hs ho => ?dsc,
    seqStep_ext_load, fun hs ho => ?ext, seqStep_load, fun hs ho hc => ?pass, fun hs hc => ?fail,
    fun hs => ?bl⟩
  case dsc =>
    have hgoes : b.opr ≠ opcode .descr := by rcases ho with ho | ho <;> rw [ho] <;> decide
    exact seqStep_dsc_ext hs hgoes
  case ext =>
    have hends : b.opr ≠ opcode .validate := by rcases ho with ho | ho <;> rw [ho] <;> decide
    exact seqStep_ext_finish hs hends
  case pass =>
    exact seqStep_chk_pass hs ho ((lowByteZero_eq_decide_setWidth _).trans (decide_eq_true hc))
  case fail =>
    have hexit : ¬(b.opr = opcode .validate ∧ lowByteZero b.temp = true) := by
      rw [lowByteZero_eq_decide_setWidth, decide_eq_true_iff]
      exact not_and_or.mpr hc
    rw [seqStep_chk hs, chkStep, if_neg hexit, lowByteZero_eq_decide_setWidth]
    rfl
  case bl =>
    rw [seqStep_bl hs, blStep, not_blacklisted_eq_decide, blacklisted_eq_decide]
    rfl

/-- Settles O30: one iteration by the value of ITER, and the run of them. -/
theorem redRunsTheReduction : Obligations.RedRunsTheReduction :=
  ⟨fun _ hs hi => seqStep_red_of_ne hs (BitVec.ne_of_lt hi), fun _ => seqStep_red_last,
    fun _ _ hs hi hk => seqRun_red hs hi hk, fun _ => seqRun_red_all⟩

/-- Settles O27: the verdict at each of the exits of VALIDATE. -/
theorem validateVerdict : Obligations.ValidateVerdict := by
  intro s hs
  have hgate : (acceptance .validate s.block).state = .gate := rfl
  have hopr : (acceptance .validate s.block).opr = opcode .validate := rfl
  refine ⟨_, exec_idle .validate hs, ?_⟩
  rw [setBlock_block]
  by_cases hd : s.block.digits = 16
  · cases hc : isChecksumValid (descramble s.block.num) with
    | false =>
      refine ⟨48, by decide, ?_⟩
      rw [seqRun_validate_crc_fail hgate hopr hd hc]
      simp [validateAtChk, acceptance]
    | true =>
      refine ⟨49, by decide, ?_⟩
      rw [seqRun_validate_bl hgate hopr hd hc]
      simp [hd, acceptance, sentinel]
  · refine ⟨1, by decide, ?_⟩
    rw [seqRun_succ, seqRun_zero, seqStep_gate_fail hgate hd]
    exact ⟨rfl, rfl, iff_of_false Bool.false_ne_true fun ⟨hlength, _⟩ => hd hlength⟩

end Sys2Proof.Machine
end

section
/-! Encoding and decoding agree (R93 to R96). -/

namespace Sys2Proof

theorem eq_opcode_of_decodeOpcode {op : Nibble} {i : Instr} (h : decodeOpcode op = .ok i) :
    op = opcode i := by
  cases i <;> decide +revert

theorem decode_encode (i : Instr) : decode (encode i) = .ok i := by
  cases i <;> rfl

/-- A word whose RSVD is 0 is its OP field zero-extended (R91). -/
theorem eq_setWidth_of_reservedIsZero {w : Word} (h : reservedIsZero w = true) :
    w = (w.setWidth 4).setWidth 64 := by
  have hlow : w < BitVec.twoPow 64 4 := by
    have hzero := reservedIsZero_iff.mp h
    rw [BitVec.lt_def, BitVec.toNat_twoPow]
    omega
  exact (BitVec.setWidth_setWidth_eq_self hlow).symm

theorem eq_encode_of_decode {w : Word} {i : Instr} (h : decode w = .ok i) : w = encode i := by
  cases hr : reservedIsZero w with
  | false => simp [decode, hr] at h
  | true =>
    rw [decode_of_reservedIsZero hr] at h
    rw [encode, ← eq_opcode_of_decodeOpcode h]
    exact eq_setWidth_of_reservedIsZero hr

/-- Settles O3, each direction by its lemma. -/
theorem decodeAndEncodeAgree : Obligations.DecodeAndEncodeAgree :=
  ⟨fun i _ => decode_encode i, fun _ _ => eq_encode_of_decode,
    fun _ => BitVec.toNat_setWidth_of_le (by decide)⟩

end Sys2Proof
end

section
/-! The byte lanes of the bus (R63). -/

namespace Sys2Proof.Machine

/-- Bit j of a value on lanes is bit `j % 8` of lane `j / 8`. -/
theorem getLsbD_ofLanes (lanes : List Byte) {j : Nat} (hj : j < 64) :
    (ofLanes lanes).getLsbD j = (lanes.getD (j / 8) 0).getLsbD (j % 8) := by
  induction lanes generalizing j with
  | nil => simp [ofLanes]
  | cons b rest ih =>
    rw [ofLanes, BitVec.getLsbD_or, BitVec.getLsbD_shiftLeft]
    by_cases hlow : j < 8
    · simp [hlow, hj, Nat.div_eq_of_lt hlow, Nat.mod_eq_of_lt hlow]
    · have hdiv : j / 8 = (j - 8) / 8 + 1 := by omega
      have hmod : j % 8 = (j - 8) % 8 := by omega
      have hpast : b.getLsbD j = false := BitVec.getLsbD_of_ge b j (by omega)
      rw [ih (by omega), hdiv, hmod]
      simp [hlow, hj, hpast]

theorem getElem?_busLanes (v : Word) {k : Nat} (hk : k < 8) :
    (busLanes v)[k]? = some (byteOf v k) := by
  simp [busLanes, hk]

theorem ofLanes_busLanes (v : Word) : ofLanes (busLanes v) = v := by
  refine BitVec.eq_of_getLsbD_eq fun j hj => ?_
  rw [getLsbD_ofLanes _ hj, List.getD_eq_getElem?_getD, getElem?_busLanes v (by omega),
    Option.getD_some, getLsbD_byteOf, Nat.div_add_mod]
  simp [Nat.mod_lt]

/-- Settles O4: a lane is a slice of the word, and the lanes give each bit back. -/
theorem busLanesCarryTheWord : Obligations.BusLanesCarryTheWord := by
  intro v
  refine ⟨by simp [busLanes], ofLanes_busLanes v, fun k hk => ?_⟩
  rw [getElem?_busLanes v hk, byteOf, BitVec.setWidth_ushiftRight_eq_extractLsb]

end Sys2Proof.Machine
end

section
/-! The STATUS word (R23): ten fields side by side. -/

namespace Sys2Proof.Machine

theorem statusWord_eq_fieldAt (b : Block) : statusWord b =
    fieldAt 24 (stateCode b.state) ||| fieldAt 16 b.iter ||| fieldAt 11 (BitVec.ofBool b.valid) |||
      fieldAt 10 (BitVec.ofBool b.black) ||| fieldAt 9 (BitVec.ofBool b.crcOk) |||
      fieldAt 8 (BitVec.ofBool b.lenOk) ||| fieldAt 4 (errCodeBits b.errc) |||
      fieldAt 2 (BitVec.ofBool b.err) ||| fieldAt 1 (BitVec.ofBool b.done) |||
      fieldAt 0 (BitVec.ofBool (busy b)) := by
  simp only [statusWord, fieldAt, flagBit, BitVec.shiftLeft_zero]

theorem stateCode_le (q : SeqState) : stateCode q ≤ 7 := by
  cases q <;> decide

theorem errCodeBits_le (c : ErrCode) : errCodeBits c ≤ 2 := by
  cases c <;> decide

theorem getLsbD_of_extractLsb'_one {v : Word} {k : Nat} {f : Bool}
    (h : v.extractLsb' k 1 = BitVec.ofBool f) : v.getLsbD k = f := by
  have hbit := congrArg (fun x => x.getLsbD 0) h
  simpa using hbit

theorem extractLsb'_statusWord_state (b : Block) :
    (statusWord b).extractLsb' 24 4 = stateCode b.state := by
  simp [statusWord_eq_fieldAt, BitVec.extractLsb'_or, extractLsb'_fieldAt_same,
    extractLsb'_fieldAt_disjoint]

theorem extractLsb'_statusWord_errc (b : Block) :
    (statusWord b).extractLsb' 4 4 = errCodeBits b.errc := by
  simp [statusWord_eq_fieldAt, BitVec.extractLsb'_or, extractLsb'_fieldAt_same,
    extractLsb'_fieldAt_disjoint]

/-- Bit 0 of STATUS is BUSY (R24). -/
theorem getLsbD_statusWord_busy (b : Block) : (statusWord b).getLsbD 0 = busy b := by
  refine getLsbD_of_extractLsb'_one ?_
  simp [statusWord_eq_fieldAt, BitVec.extractLsb'_or, extractLsb'_fieldAt_same,
    extractLsb'_fieldAt_disjoint]

/-- Settles O14: a slice of STATUS meets its own field and misses the nine others; a reserved slice
misses all ten. -/
theorem statusLayout : Obligations.StatusLayout := by
  refine ⟨⟨rfl, rfl, rfl, rfl, rfl, rfl, rfl, rfl⟩, ⟨rfl, rfl, rfl⟩, fun b => ?_⟩
  have bit {k : Nat} {f : Bool} := getLsbD_of_extractLsb'_one (v := statusWord b) (k := k) (f := f)
  have hstate := extractLsb'_statusWord_state b
  have herrc := extractLsb'_statusWord_errc b
  refine ⟨getLsbD_statusWord_busy b, bit ?_, bit ?_, bit (f := false) ?_, herrc, bit ?_, bit ?_,
    bit ?_, bit ?_, ?_, ?_, ?_, hstate, ?_, hstate ▸ stateCode_le _, herrc ▸ errCodeBits_le _⟩ <;>
    simp [statusWord_eq_fieldAt, BitVec.extractLsb'_or, extractLsb'_fieldAt_same,
      extractLsb'_fieldAt_disjoint]

end Sys2Proof.Machine
end

section
/-! The host assembly (R97, R98). -/

namespace Sys2Proof.Machine

/-- A host instruction without a transaction leaves the block alone. -/
theorem tick_accessTick_none (s : State) :
    tick (accessTick none) s = .next (s.setResponse none) := rfl

theorem tick_accessTick_some {a : Access} {s t : State} (h : hostAccess a s = .next t) :
    tick (accessTick (some a)) s = .next t := by
  simp [tick, accessTick, slotAccess, h, slotSequencer]

theorem hostCpuStep_of_tick {program : List HostInstr} {h : HostCpu} {s t : State} {i : HostInstr}
    (hi : program[h.line]? = some i) (ht : tick (accessTick (hostTransaction i)) s = .next t) :
    hostCpuStep program h s = .next (hostEffect i (responseData t.response) h, t) := by
  simp [hostCpuStep, hi, ht]

section
variable {program : List HostInstr} {h : HostCpu} {s : State} {rx ry : Fin 8}

theorem hostCpuStep_ld {r : Reg} (hi : program[h.line]? = some (.ld rx r)) :
    hostCpuStep program h s = .next (h.writeReg rx (readReg r s.block),
      s.setResponse (some (.data (readReg r s.block)))) :=
  hostCpuStep_of_tick hi (tick_accessTick_some (hostAccess_read_regOffset r s))

theorem hostCpuStep_andi {imm : Word} (hi : program[h.line]? = some (.andi rx ry imm)) :
    hostCpuStep program h s =
      .next (h.writeReg rx (h.regs.get ry &&& imm), s.setResponse none) :=
  hostCpuStep_of_tick hi (tick_accessTick_none s)

theorem hostCpuStep_bnez {line : Nat} (hi : program[h.line]? = some (.bnez rx line)) :
    hostCpuStep program h s =
      .next ({ h with line := if h.regs.get rx = 0 then h.line + 1 else line },
        s.setResponse none) := by
  rw [hostCpuStep_of_tick hi (tick_accessTick_none s), hostEffect, ite_not]
  split <;> rfl

theorem hostCpuStep_beqz {line : Nat} (hi : program[h.line]? = some (.beqz rx line)) :
    hostCpuStep program h s =
      .next ({ h with line := if h.regs.get rx = 0 then line else h.line + 1 },
        s.setResponse none) := by
  rw [hostCpuStep_of_tick hi (tick_accessTick_none s), hostEffect]
  split <;> rfl

end

/-- Settles O55, instruction by instruction. -/
theorem hostInstructionEffects : Obligations.HostInstructionEffects := by
  intro program h s i hi
  refine ⟨?st, ?ld, ?andi, ?bnez, ?beqz⟩
  case st =>
    rintro r imm rfl
    obtain ⟨t, ht, -⟩ := hostAccess_write_regOffset r imm s
    exact ⟨t, ht, hostCpuStep_of_tick hi (tick_accessTick_some ht)⟩
  case ld =>
    rintro rx r rfl
    exact hostCpuStep_ld hi
  case andi =>
    rintro rx ry imm rfl
    exact hostCpuStep_andi hi
  case bnez =>
    rintro rx line rfl
    exact hostCpuStep_bnez hi
  case beqz =>
    rintro rx line rfl
    exact hostCpuStep_beqz hi

/-- `STATUS & 1` is BUSY (R24). -/
theorem statusWord_and_one (b : Block) :
    statusWord b &&& 1 = if b.state ≠ .idle then 1 else 0 := by
  rw [← flagBit_busy, ← getLsbD_statusWord_busy]
  exact BitVec.and_one_eq_setWidth_ofBool_getLsbD

theorem writeReg_get_self (h : HostCpu) (rx : Fin 8) (v : Word) :
    (h.writeReg rx v).regs.get rx = v := by
  simp [HostCpu.writeReg, Vector.get_eq_getElem]

theorem systemRun_host {program : List HostInstr} {h h' : HostCpu} {s s' : State}
    (hstep : hostCpuStep program h s = .next (h', s')) (ts : List Turn) :
    systemRun program (.host :: ts) h s = systemRun program ts h' s' := by
  simp [systemRun, systemStep, hstep]

/-- Settles O56: the three instructions of a round, one after the other; r7 is BUSY when the branch
reads it. -/
theorem waitPollsUntilNotBusy : Obligations.WaitPollsUntilNotBusy := by
  intro program h s hld handi hbnez
  let h₁ := h.writeReg 7 (readReg .status s.block)
  let h₂ := h₁.writeReg 7 (readReg .status s.block &&& 1)
  have hr7 : h₂.regs.get 7 = if s.block.state ≠ .idle then 1 else 0 :=
    (writeReg_get_self h₁ 7 _).trans (statusWord_and_one s.block)
  have hsecond {s₁ : State} : hostCpuStep program h₁ s₁ = .next (h₂, s₁.setResponse none) := by
    rw [hostCpuStep_andi (h := h₁) handi, writeReg_get_self]
  have hrun : systemRun program [.host, .host, .host] h s =
      .next ({ h₂ with line := if h₂.regs.get 7 = 0 then h₂.line + 1 else h.line },
        s.setResponse none) := by
    rw [systemRun_host (hostCpuStep_ld hld), systemRun_host hsecond,
      systemRun_host (hostCpuStep_bnez (h := h₂) hbnez)]
    rfl
  have hline : h₂.line + 1 = h.line + 3 := rfl
  refine ⟨_, _, hrun, rfl, fun hs => ?_, fun hs => ?_⟩ <;> simp [hr7, hs, hline]

end Sys2Proof.Machine
end

section
/-! The descrambler on 53 bits (R115, R118, R120, R122, R126, R127): the bound of each intermediate
value, the two rotations, and the way back from the result to the argument. -/

namespace Sys2Proof.Machine

theorem getLsbD_of_toNat_lt {v : Word} {n j : Nat} (h : v.toNat < 2 ^ n) (hj : n ≤ j) :
    v.getLsbD j = false :=
  Nat.testBit_lt_two_pow (h.trans_le (Nat.pow_le_pow_right Nat.two_pos hj))

theorem toNat_lt_iff_getLsbD {v : Word} :
    v.toNat < 2 ^ 53 ↔ ∀ j, 53 ≤ j → v.getLsbD j = false :=
  ⟨fun h _ hj => getLsbD_of_toNat_lt h hj, fun h => Nat.lt_pow_two_of_testBit _ h⟩

/-- A mask of n low bits. -/
theorem getLsbD_lowMask {n : Nat} (hn : n ≤ 64) (j : Nat) :
    ((BitVec.allOnes n).setWidth 64 : Word).getLsbD j = decide (j < n) := by
  rw [BitVec.getLsbD_setWidth, BitVec.getLsbD_allOnes, Bool.and_eq_right_iff_imp]
  simp only [decide_eq_true_eq]
  omega

theorem getLsbD_idMask (j : Nat) : idMask.getLsbD j = decide (j < 53) :=
  getLsbD_lowMask (n := 53) (by decide) j

theorem toNat_and_idMask_lt (v : Word) : (v &&& idMask).toNat < 2 ^ 53 := by
  rw [BitVec.toNat_and]
  exact Nat.and_lt_two_pow _ (by decide)

theorem xor_and_distrib (x y m : Word) : (x ^^^ y) &&& m = (x &&& m) ^^^ (y &&& m) :=
  BitVec.eq_of_toNat_eq Nat.and_xor_distrib_right

/-- Two words have the same slice iff they have the same bits there. -/
theorem extractLsb'_eq_iff {v w : Word} {start n : Nat} :
    v.extractLsb' start n = w.extractLsb' start n ↔
      ∀ j, start ≤ j → j < start + n → v.getLsbD j = w.getLsbD j := by
  refine ⟨fun h j hlow hhigh => ?_, fun h => BitVec.eq_of_getLsbD_eq fun j hj => ?_⟩
  · have hbit := congrArg (fun t => t.getLsbD (j - start)) h
    simpa only [BitVec.getLsbD_extractLsb', Nat.add_sub_cancel' hlow,
      decide_eq_true (show j - start < n by omega), Bool.true_and] using hbit
  · rw [BitVec.getLsbD_extractLsb', BitVec.getLsbD_extractLsb', h _ (by omega) (by omega)]

/-! Steps 3 and 4: a rotation right by one. -/

theorem and_one_eq_zero_or_one (v : Word) : v &&& 1 = 0 ∨ v &&& 1 = 1 := by
  rw [show v &&& 1 = _ from BitVec.and_one_eq_setWidth_ofBool_getLsbD]
  cases v.getLsbD 0 <;> decide

theorem isolateBit_eq (v2 : Word) : isolateBit v2 = (v2 &&& 1) <<< 5 := by
  rw [BitVec.shiftLeft_and_distrib]
  rfl

theorem reinsertBit_isolateBit (v2 : Word) :
    reinsertBit v2 (isolateBit v2) = (v2 >>> 1) ||| ((v2 &&& 1) <<< 52) := by
  have hcarry : (v2 &&& 1) <<< 5 <<< 48 >>> 1 = (v2 &&& 1) <<< 52 := by
    rcases and_one_eq_zero_or_one v2 with hbit | hbit <;> rw [hbit] <;> rfl
  rw [reinsertBit, isolateBit_eq, BitVec.ushiftRight_or_distrib, hcarry]

theorem reinsertBit_isolateBit_lt {v2 : Word} (h : v2.toNat < 2 ^ 53) :
    (reinsertBit v2 (isolateBit v2)).toNat < 2 ^ 53 := by
  rw [reinsertBit_isolateBit, BitVec.toNat_or]
  refine Nat.or_lt_two_pow ?_ ?_
  · rw [BitVec.toNat_ushiftRight]
    exact (Nat.shiftRight_le _ _).trans_lt h
  · rcases and_one_eq_zero_or_one v2 with hbit | hbit <;> rw [hbit] <;> decide

/-- Settles O42: the isolated bit is bit 0, and it comes back at bit 52. -/
theorem stepsThreeAndFourRotate : Obligations.StepsThreeAndFourRotate :=
  fun v2 h => ⟨reinsertBit_isolateBit v2, reinsertBit_isolateBit_lt h⟩

/-! The bound of v6. -/

theorem dscV2_eq (x : Word) : dscV2 x = (x &&& idMask) ^^^ 0x5E5E5E5E5E5E := by
  rw [dscV2, xorInput, maskInput, xor_and_distrib, BitVec.and_assoc, BitVec.and_self]
  rfl

theorem dscV2_lt (x : Word) : (dscV2 x).toNat < 2 ^ 53 := toNat_and_idMask_lt _

theorem dscV4_lt (x : Word) : (dscV4 x).toNat < 2 ^ 53 := reinsertBit_isolateBit_lt (dscV2_lt x)

/-- Steps 5 and 6 keep the bits from 48 on (R116, R117). -/
theorem getLsbD_replaceLow_high (v : Word) (lane : Nat → Byte) {j : Nat} (hj : 48 ≤ j) :
    (replaceLow v (assembleLanes lane)).getLsbD j = v.getLsbD j := by
  by_cases hword : j < 64
  · simp [getLsbD_replaceLow _ _ hword, getLsbD_assembleLanes _ hword, not_lt.mpr hj]
  · rw [BitVec.getLsbD_of_ge _ _ (not_lt.mp hword), BitVec.getLsbD_of_ge _ _ (not_lt.mp hword)]

theorem dscV6_lt (x : Word) : (dscV6 x).toNat < 2 ^ 53 := by
  refine toNat_lt_iff_getLsbD.mpr fun j hj => ?_
  have hhigh : 48 ≤ j := by omega
  rw [dscV6, substituteNibbles, getLsbD_replaceLow_high _ _ hhigh, permuteBytes,
    getLsbD_replaceLow_high _ _ hhigh]
  exact getLsbD_of_toNat_lt (dscV4_lt x) hj

/-! Step 7: a rotation left by ten. -/

theorem reshuffleA_eq (v6 : Word) : reshuffleA v6 = v6 >>> 22 := by
  have hmask (j : Nat) : (0x7FF : Word).getLsbD j = decide (j < 11) :=
    getLsbD_lowMask (n := 11) (by decide) j
  refine BitVec.eq_of_getLsbD_eq fun j _ => ?_
  rw [reshuffleA, reshuffleHi, BitVec.getLsbD_or, BitVec.getLsbD_shiftLeft, BitVec.getLsbD_and,
    hmask, BitVec.getLsbD_ushiftRight, BitVec.getLsbD_ushiftRight]
  by_cases hlow : j < 10
  · simp [hlow]
  · have hbit : 32 + (j - 10) = 22 + j := by omega
    rw [hbit]
    cases v6.getLsbD (22 + j) <;> simp

theorem mul_eq_shiftLeft_ten (v : Word) : v * 0x400 = v <<< 10 :=
  BitVec.mul_twoPow_eq_shiftLeft v 10

theorem reshuffleB_eq {v6 : Word} (h : v6.toNat < 2 ^ 53) :
    reshuffleB v6 = (v6 <<< 10) ||| (v6 >>> 43) := by
  have hmask (j : Nat) : (0x3FF : Word).getLsbD j = decide (j < 10) :=
    getLsbD_lowMask (n := 10) (by decide) j
  have hkept : v6 >>> 32 >>> 11 &&& (0x3FF : Word) = v6 >>> 43 := by
    refine BitVec.eq_of_getLsbD_eq fun j _ => ?_
    rw [← BitVec.shiftRight_add, BitVec.getLsbD_and, hmask, BitVec.getLsbD_ushiftRight]
    by_cases hlow : j < 10
    · simp [hlow]
    · rw [getLsbD_of_toNat_lt (j := 43 + j) h (by omega), Bool.false_and]
  rw [reshuffleB, reshuffleHi, mul_eq_shiftLeft_ten, hkept]

theorem reshuffle_eq {v6 : Word} (h : v6.toNat < 2 ^ 53) :
    reshuffle v6 = (v6 <<< 10) ||| (v6 >>> 43) := by
  have hinside : v6 >>> 22 <<< 32 ||| v6 <<< 10 = v6 <<< 10 := by
    refine BitVec.eq_of_getLsbD_eq fun j hj => ?_
    rw [BitVec.getLsbD_or, BitVec.getLsbD_shiftLeft, BitVec.getLsbD_ushiftRight,
      BitVec.getLsbD_shiftLeft]
    by_cases hlow : j < 32
    · simp [hlow]
    · have hbit : 22 + (j - 32) = j - 10 := by omega
      simp [hlow, hbit, show ¬ j < 10 by omega]
  rw [reshuffle, reshuffleA_eq, reshuffleB_eq h, ← BitVec.or_assoc, hinside]

/-- Settles O45, on the bound of v6. -/
theorem stepSevenRotates : Obligations.StepSevenRotates := fun x =>
  ⟨dscV6_lt x, mul_eq_shiftLeft_ten _, reshuffleA_eq _, reshuffle_eq (dscV6_lt x)⟩

/-- A bit of the rotated value, before the output mask (R120). -/
theorem getLsbD_rotated {v6 : Word} (h : v6.toNat < 2 ^ 53) {j : Nat} (hj : j < 64) :
    ((v6 <<< 10) ||| (v6 >>> 43)).getLsbD j =
      if j < 10 then v6.getLsbD (43 + j) else v6.getLsbD (j - 10) := by
  rw [BitVec.getLsbD_or, BitVec.getLsbD_shiftLeft, BitVec.getLsbD_ushiftRight]
  split
  case isTrue hlow => simp [hlow]
  case isFalse hhigh =>
    rw [getLsbD_of_toNat_lt (j := 43 + j) h (by omega), decide_eq_true hj, decide_eq_false hhigh]
    simp

theorem descramble_eq (x : Word) :
    descramble x = ((dscV6 x <<< 10) ||| (dscV6 x >>> 43)) ^^^ 0xB3B3B3B3B3B3 := by
  rw [descramble, reshuffle_eq (dscV6_lt x), xorOutput]

/-- The output mask has no bit from 48 on. -/
theorem getLsbD_outputMask {j : Nat} (hj : 48 ≤ j) : (0xB3B3B3B3B3B3 : Word).getLsbD j = false :=
  getLsbD_of_toNat_lt (n := 48) (by decide) hj

theorem getLsbD_descramble_high (x : Word) {j : Nat} (hlow : 48 ≤ j) (hj : j < 64) :
    (descramble x).getLsbD j = (dscV6 x).getLsbD (j - 10) := by
  rw [descramble_eq, BitVec.getLsbD_xor, getLsbD_outputMask hlow, Bool.xor_false,
    getLsbD_rotated (dscV6_lt x) hj, if_neg (by omega)]

theorem descramble_and_idMask (x : Word) : descramble x &&& idMask =
    (((dscV6 x <<< 10) ||| (dscV6 x >>> 43)) &&& idMask) ^^^ 0xB3B3B3B3B3B3 := by
  rw [descramble_eq, xor_and_distrib]
  rfl

/-- Settles O46, bit by bit above the output mask. -/
theorem descrambleOutputShape : Obligations.DescrambleOutputShape := by
  intro x
  refine ⟨?_, BitVec.eq_of_getLsbD_eq fun j hj => ?_, descramble_and_idMask x⟩
  · rw [getLsbD_descramble_high x (by decide) (by decide)]
    exact getLsbD_of_toNat_lt (dscV6_lt x) le_rfl
  · have hplace : 53 + j - 10 = 43 + j := by omega
    simp [hj, getLsbD_descramble_high x (show 48 ≤ 53 + j by omega) (by omega), hplace]

/-! The way back: each step of descramble is injective on the values it meets (R127). -/

theorem rotateLeft_injective {v w : Word} (hv : v.toNat < 2 ^ 53) (hw : w.toNat < 2 ^ 53)
    (h : ((v <<< 10) ||| (v >>> 43)) &&& idMask = ((w <<< 10) ||| (w >>> 43)) &&& idMask) :
    v = w := by
  have hbits {j : Nat} (hj : j < 53) : (if j < 10 then v.getLsbD (43 + j) else v.getLsbD (j - 10)) =
      if j < 10 then w.getLsbD (43 + j) else w.getLsbD (j - 10) := by
    have hbit := congrArg (fun u => u.getLsbD j) h
    have hword : j < 64 := by omega
    simpa only [BitVec.getLsbD_and, getLsbD_rotated hv hword, getLsbD_rotated hw hword,
      getLsbD_idMask, decide_eq_true hj, Bool.and_true] using hbit
  refine BitVec.eq_of_getLsbD_eq fun j _ => ?_
  by_cases hlow : j < 43
  · have hbit := hbits (j := j + 10) (by omega)
    rwa [if_neg (by omega), if_neg (by omega), Nat.add_sub_cancel] at hbit
  by_cases hhigh : j < 53
  · have hbit := hbits (j := j - 43) (by omega)
    rwa [if_pos (by omega), if_pos (by omega), Nat.add_sub_cancel' (by omega)] at hbit
  · rw [getLsbD_of_toNat_lt hv (by omega), getLsbD_of_toNat_lt hw (by omega)]

/-- A bit of the value rotated right (R115). -/
theorem getLsbD_rotateRight {v : Word} (h : v.toNat < 2 ^ 53) {j : Nat} (hj : j < 64) :
    (reinsertBit v (isolateBit v)).getLsbD j =
      if j = 52 then v.getLsbD 0 else v.getLsbD (1 + j) := by
  have hone (k : Nat) : (1 : Word).getLsbD k = decide (k = 0) := BitVec.getLsbD_one
  rw [reinsertBit_isolateBit, BitVec.getLsbD_or, BitVec.getLsbD_ushiftRight,
    BitVec.getLsbD_shiftLeft, BitVec.getLsbD_and, hone]
  split
  case isTrue hplace =>
    subst hplace
    rw [getLsbD_of_toNat_lt (j := 1 + 52) h le_rfl]
    simp
  case isFalse hplace =>
    have hother : j < 52 ∨ j - 52 ≠ 0 := by omega
    rcases hother with hlow | hne
    · simp [hlow]
    · simp [hne]

theorem rotateRight_injective {v w : Word} (hv : v.toNat < 2 ^ 53) (hw : w.toNat < 2 ^ 53)
    (h : reinsertBit v (isolateBit v) = reinsertBit w (isolateBit w)) : v = w := by
  have hbits {j : Nat} (hj : j < 64) : (if j = 52 then v.getLsbD 0 else v.getLsbD (1 + j)) =
      if j = 52 then w.getLsbD 0 else w.getLsbD (1 + j) := by
    rw [← getLsbD_rotateRight hv hj, ← getLsbD_rotateRight hw hj, h]
  refine BitVec.eq_of_getLsbD_eq fun j hj => ?_
  by_cases hzero : j = 0
  · have hbit := hbits (j := 52) (by decide)
    rwa [if_pos rfl, if_pos rfl, ← hzero] at hbit
  by_cases hhigh : j < 53
  · have hbit := hbits (j := j - 1) (by omega)
    rwa [if_neg (by omega), if_neg (by omega), Nat.add_sub_cancel' (by omega)] at hbit
  · rw [getLsbD_of_toNat_lt hv (by omega), getLsbD_of_toNat_lt hw (by omega)]

/-- A word is its six low bytes and its bits 63:48. -/
theorem eq_of_byteOf_eq {v w : Word} (hbytes : ∀ i < 6, byteOf v i = byteOf w i)
    (hhigh : v.extractLsb' 48 16 = w.extractLsb' 48 16) : v = w := by
  refine BitVec.eq_of_getLsbD_eq fun j hj => ?_
  by_cases hlow : j < 48
  · have hbit := congrArg (fun t => t.getLsbD (j % 8)) (hbytes (j / 8) (by omega))
    simpa only [getLsbD_byteOf, Nat.div_add_mod, decide_eq_true (Nat.mod_lt j Nat.ofNat_pos),
      Bool.true_and] using hbit
  · exact extractLsb'_eq_iff.mp hhigh j (not_lt.mp hlow) hj

theorem subst_injective : Function.Injective subst := by
  unfold Function.Injective
  decide

/-- A byte is its two nibbles. -/
theorem eq_nibbles (t : Byte) : t = (nibHi t).setWidth 8 <<< 4 ||| (nibLo t).setWidth 8 := by
  decide +revert

theorem substByte_injective : Function.Injective substByte := by
  intro t u h
  have hhi := congrArg nibHi h
  have hlo := congrArg nibLo h
  rw [nibHi_substByte, nibHi_substByte] at hhi
  rw [nibLo_substByte, nibLo_substByte] at hlo
  rw [eq_nibbles t, eq_nibbles u, subst_injective hhi, subst_injective hlo]

theorem substituteNibbles_injective : Function.Injective substituteNibbles := by
  intro v w h
  refine eq_of_byteOf_eq (fun i hi => substByte_injective ?_) ?_
  · rw [← byteOf_substituteNibbles v hi, ← byteOf_substituteNibbles w hi, h]
  · rw [← extractLsb'_replaceLow_assembleLanes v, ← extractLsb'_replaceLow_assembleLanes w]
    exact congrArg _ h

/-- P is a permutation, so every byte of v4 comes back in a byte of v5 (R116). -/
theorem exists_perm_eq {i : Nat} (hi : i < 6) : ∃ k < 6, perm k = i := by
  decide +revert

theorem permuteBytes_injective : Function.Injective permuteBytes := by
  intro v w h
  refine eq_of_byteOf_eq (fun i hi => ?_) ?_
  · obtain ⟨k, hk, rfl⟩ := exists_perm_eq hi
    rw [← byteOf_permuteBytes v hk, ← byteOf_permuteBytes w hk, h]
  · rw [← extractLsb'_replaceLow_assembleLanes v, ← extractLsb'_replaceLow_assembleLanes w]
    exact congrArg _ h

/-- Settles O47: the input mask one way, and the steps taken back one by one the other. -/
theorem descrambleIsInjectiveOn53Bits : Obligations.DescrambleIsInjectiveOn53Bits := by
  refine ⟨fun x y h => ?_, fun x y h => ?_⟩
  · have hmask : maskInput x = maskInput y := h
    rw [← descramble_maskInput x, ← descramble_maskInput y, hmask]
  · have hrotated : dscV6 x = dscV6 y := by
      refine rotateLeft_injective (dscV6_lt x) (dscV6_lt y) ?_
      have hmasked : descramble x &&& idMask = descramble y &&& idMask := h
      rw [descramble_and_idMask, descramble_and_idMask] at hmasked
      exact (BitVec.xor_left_inj _).mp hmasked
    have hv4 : dscV4 x = dscV4 y := permuteBytes_injective (substituteNibbles_injective hrotated)
    have hv2 : dscV2 x = dscV2 y := rotateRight_injective (dscV2_lt x) (dscV2_lt y) hv4
    rw [dscV2_eq, dscV2_eq] at hv2
    exact (BitVec.xor_left_inj _).mp hv2

end Sys2Proof.Machine
end

section
/-! The fields of FEX are exactly bits 52:10 (R142, R143). -/

namespace Sys2Proof.Machine

theorem extract_eq_iff_slices {u v : Word} : extract u = extract v ↔
    u.extractLsb' 15 32 = v.extractLsb' 15 32 ∧ u.extractLsb' 10 5 = v.extractLsb' 10 5 ∧
    u.extractLsb' 47 3 = v.extractLsb' 47 3 ∧ u.extractLsb' 50 3 = v.extractLsb' 50 3 := by
  rw [extract_eq_slices, extract_eq_slices, Identity.mk.injEq]

/-- Settles O50: every bit of 52:10 lies in one of the four slices, and every bit of a slice in
52:10. -/
theorem fieldsAreBits52To10 : Obligations.FieldsAreBits52To10 := by
  intro u v
  simp only [extract_eq_iff_slices, extractLsb'_eq_iff]
  constructor
  · rintro ⟨hentity, hgeneration, hmodel, harea⟩ j hlow hhigh
    rcases lt_or_ge j 15 with h | h
    · exact hgeneration j hlow h
    rcases lt_or_ge j 47 with h' | h'
    · exact hentity j h h'
    rcases lt_or_ge j 50 with h'' | h''
    · exact hmodel j h' h''
    · exact harea j h'' hhigh
  · intro h
    refine ⟨?_, ?_, ?_, ?_⟩ <;> exact fun j hlow hhigh => h j (by omega) (by omega)

end Sys2Proof.Machine
end

section
/-! The reduction as polynomial arithmetic (R163, R165 to R167): it clears the dividend, is linear
over GF(2), and leaves everything outside bits 52:10 to the low byte's test. -/

namespace Sys2Proof.Machine

/-! One iteration clears its own bit and touches none above it (R161). -/

theorem getLsbD_genPoly_of_gt {j : Nat} (hj : 10 < j) : genPoly.getLsbD j = false :=
  getLsbD_of_toNat_lt (n := 11) (by decide) hj

section
variable {i : Nat} (hi : i < 43)
include hi

theorem getLsbD_redStep_above (temp : Word) {j : Nat} (hj : 52 - i < j) :
    (redStep temp i).getLsbD j = temp.getLsbD j := by
  rw [redStep_of_lt temp hi]
  split
  · rw [BitVec.getLsbD_xor, BitVec.getLsbD_shiftLeft, getLsbD_genPoly_of_gt (by omega)]
    simp
  · rfl

theorem getLsbD_redStep_same (temp : Word) : (redStep temp i).getLsbD (52 - i) = false := by
  rw [redStep_of_lt temp hi]
  split
  case isTrue hset =>
    have hplace : 52 - i - (42 - i) = 10 := by omega
    have hlead : genPoly.getLsbD 10 = true := by decide
    rw [BitVec.getLsbD_xor, BitVec.getLsbD_shiftLeft, hset, hplace, hlead,
      decide_eq_true (by omega), decide_eq_false (by omega)]
    rfl
  case isFalse hclear => exact Bool.not_eq_true _ ▸ hclear

/-- XORing is addition over GF(2), and the iteration adds the polynomial by the leading bit alone.
-/
theorem redStep_xor (u v : Word) : redStep (u ^^^ v) i = redStep u i ^^^ redStep v i := by
  simp only [redStep_of_lt _ hi, BitVec.getLsbD_xor]
  cases u.getLsbD (52 - i) <;> cases v.getLsbD (52 - i)
  case false.false => rfl
  case false.true => exact BitVec.xor_assoc _ _ _
  case true.false | true.true => simp [BitVec.xor_assoc, BitVec.xor_comm v]

end

section
variable {k : Nat} (hk : k ≤ 43)
include hk

/-- After k iterations the k highest bits of the dividend are 0 and the bits above it as they were.
-/
theorem getLsbD_reduce_of_ge (u : Word) {j : Nat} (hj : 53 ≤ j) :
    (reduce u k).getLsbD j = u.getLsbD j := by
  induction k with
  | zero => rfl
  | succ k ih =>
    rw [reduce_succ, getLsbD_redStep_above hk _ (by omega), ih (Nat.le_of_succ_le hk)]

theorem getLsbD_reduce_cleared (u : Word) {i : Nat} (hi : i < k) :
    (reduce u k).getLsbD (52 - i) = false := by
  induction k with
  | zero => exact absurd hi (Nat.not_lt_zero i)
  | succ k ih =>
    rw [reduce_succ]
    rcases Nat.lt_succ_iff_lt_or_eq.mp hi with hlt | rfl
    · rw [getLsbD_redStep_above hk _ (by omega), ih (Nat.le_of_succ_le hk) hlt]
    · exact getLsbD_redStep_same hk _

theorem reduce_xor (u v : Word) : reduce (u ^^^ v) k = reduce u k ^^^ reduce v k := by
  induction k with
  | zero => rfl
  | succ k ih =>
    rw [reduce_succ, ih (Nat.le_of_succ_le hk), redStep_xor hk, reduce_succ, reduce_succ]

end

/-- The dividend of the reduction, bits 52:10 (R163). -/
def dividendMask : Word := 0x001FFFFFFFFFFC00

/-- Only the dividend is reduced; the rest of the word goes through as it is. -/
theorem reduce_eq_dividend (u : Word) :
    reduce u 43 = reduce (u &&& dividendMask) 43 ^^^ (u &&& ~~~dividendMask) := by
  have hsplit : u = (u &&& dividendMask) ^^^ (u &&& ~~~dividendMask) := by
    rw [BitVec.and_comm u, BitVec.and_comm u, ← xor_and_distrib]
    exact BitVec.allOnes_and.symm
  have houtside : ∀ i < 43, (~~~dividendMask).getLsbD (52 - i) = false := by decide
  have hrest : reduce (u &&& ~~~dividendMask) 43 = u &&& ~~~dividendMask := by
    refine reduce_of_bits_clear le_rfl fun i hi => ?_
    rw [BitVec.getLsbD_and, houtside i hi, Bool.and_false]
  conv_lhs => rw [hsplit]
  rw [reduce_xor le_rfl, hrest]

theorem isChecksumValid_iff_setWidth (u : Word) :
    isChecksumValid u = true ↔ (reduce u 43).setWidth 8 = 0 := by
  rw [isChecksumValid, lowByteZero_eq_decide_setWidth, decide_eq_true_iff]
  rfl

theorem isChecksumValid_iff_dividend (u : Word) :
    isChecksumValid u = true ↔ u.setWidth 8 = (reduce (u &&& dividendMask) 43).setWidth 8 := by
  have hbyte : (u &&& ~~~dividendMask).setWidth 8 = u.setWidth 8 := by
    rw [BitVec.setWidth_and]
    exact BitVec.and_allOnes
  rw [isChecksumValid_iff_setWidth, reduce_eq_dividend, BitVec.setWidth_xor, hbyte,
    eq_comm (a := u.setWidth 8)]
  exact BitVec.xor_eq_zero_iff

/-- Settles O53: the loop of linear iterations, and the split of a word at its dividend. -/
theorem reductionIsLinear : Obligations.ReductionIsLinear :=
  ⟨reduce_xor le_rfl, isChecksumValid_iff_dividend⟩

/-- Bits 63:53 play no part in the test (R165). -/
theorem isChecksumValid_and_idMask (u : Word) :
    isChecksumValid (u &&& idMask) = isChecksumValid u := by
  have hdividend : u &&& idMask &&& dividendMask = u &&& dividendMask := by
    rw [BitVec.and_assoc]
    rfl
  have hbyte : (u &&& idMask).setWidth 8 = u.setWidth 8 := by
    rw [BitVec.setWidth_and]
    exact BitVec.and_allOnes
  rw [Bool.eq_iff_iff, isChecksumValid_iff_dividend, isChecksumValid_iff_dividend, hdividend, hbyte]

/-- Settles O52: the bits inside the dividend, the bits above it, and the verdict. -/
theorem reductionClearsTheDividend : Obligations.ReductionClearsTheDividend := by
  refine fun u => ⟨?_, ?_, (isChecksumValid_and_idMask u).symm⟩
  · refine BitVec.eq_of_getLsbD_eq fun j hj => ?_
    have hplace : 10 + j = 52 - (42 - j) := by omega
    rw [BitVec.getLsbD_extractLsb', hplace, getLsbD_reduce_cleared le_rfl u (by omega)]
    simp
  · exact extractLsb'_eq_iff.mpr fun j hj _ => getLsbD_reduce_of_ge le_rfl u hj

/-- A value that passes adds nothing to the verdict on another (R166). -/
theorem isChecksumValid_xor {u : Word} (hu : isChecksumValid u = true) (v : Word) :
    isChecksumValid (u ^^^ v) = isChecksumValid v := by
  rw [isChecksumValid_iff_setWidth] at hu
  rw [Bool.eq_iff_iff, isChecksumValid_iff_setWidth, isChecksumValid_iff_setWidth,
    reduce_xor le_rfl, BitVec.setWidth_xor, hu]
  simp

theorem isChecksumValid_single_bit : ∀ k < 64,
    isChecksumValid (1 <<< k) = true ↔ k = 8 ∨ k = 9 ∨ 53 ≤ k := by
  decide +kernel

/-- Settles O54: by linearity the verdict is that on the flipped bit alone. -/
theorem singleBitFlips : Obligations.SingleBitFlips := by
  intro u k hk hu
  rw [isChecksumValid_xor hu]
  exact isChecksumValid_single_bit k hk

end Sys2Proof.Machine
end
